-- ==== Sys2Proof/Word.lean ====
section
/-! DEFINITION. The word types of TTC and their plainest readings (spec/00_scope.md R9, R10). -/

namespace Sys2Proof

/-- One byte of BUF (10_state.md R34). -/
abbrev Byte := BitVec 8

/-- A command word as CMD holds it (30_encoding.md R100). -/
abbrev CommandWord := BitVec 32

/-- The encode operand VALUE (10_state.md R40). -/
abbrev ValueWord := BitVec 66

/-- A 64-bit result word, also an IEEE-754 binary64 bit pattern (10_state.md R44). -/
abbrev Word64 := BitVec 64

end Sys2Proof
end

