-- ==== Sys2Proof/Config.lean ====
section
/-! DEFINITION. What an implementation fixes (spec/00_scope.md R7) and the one free value of the model. -/

namespace Sys2Proof

/-- FLOAT80_LAYOUT (42_float.md R258): whether the 10-byte float stores its leading significand bit. -/
inductive Float80Layout where
  /-- `X87`: M is the whole significand, with an explicit integer bit. -/
  | x87
  /-- `IMPLICIT`: M is a fraction after a hidden leading 1. -/
  | implicit
  deriving DecidableEq, Repr

/-- The parameters of 00_scope.md R7. They are carried in the state and no step changes them
(70_reset_and_hazards.md R374), so a statement over every state is over every value of them. -/
structure Params where
  /-- OFFSET_BITS: the width of OFFSET, LEN, BUF_SIZE, NEXT, RLEN, FLUSH_OFF. -/
  offsetBits : Nat
  /-- N_UNITS: how many codec units share BUF. -/
  nUnits : Nat
  /-- FLOAT80_LAYOUT. -/
  layout : Float80Layout
  deriving DecidableEq, Repr

/-- The values R7 lets: at least one unit; OFFSET_BITS wide enough for every token length (a LENGTH
of Float80 writes 10 to RLEN) and at most 64, since RESULT receives `zext_64(OFFSET)` (R10, R11).
DEDUCED, log 3. -/
abbrev Params.wf (p : Params) : Prop :=
  4 ≤ p.offsetBits ∧ p.offsetBits ≤ 64 ∧ 1 ≤ p.nUnits

/-- The parameters `State.reset` is built with: what the examples of R7 use, and R7's default layout.
DESIGN CHOICE, log 2: no statement rests on them. -/
def Config.params : Params := { offsetBits := 32, nUnits := 1, layout := .x87 }

/-- What a byte of BUF that nothing has written reads as: a free value, one for each address, of which
nothing can be proved (10_state.md R34, 70_reset_and_hazards.md R371: "a model draws them"). Log 4. -/
opaque Config.unwrittenByte : Nat → Byte

end Sys2Proof
end

