-- ==== Sys2Proof/Syntax.lean ====
section
/-! DEFINITION. The commands of TTC-1 as syntax: the tokens of spec/00_scope.md R4 and one constructor of
`Instr` for each row of spec/opcode_table.json. -/

namespace Sys2Proof

/-- The byte order of a multi-byte token (20_memory.md R70); ORDER 0 is LE, 1 is BE (30_encoding.md R100). -/
inductive ByteOrder where
  | le
  | be
  deriving DecidableEq, Repr

/-- Whether an integer token is of class UINT or SINT (30_encoding.md R101). -/
inductive Signedness where
  | unsigned
  | signed
  deriving DecidableEq, Repr

/-- The widths of the integer tokens in bytes (41_integer.md R160). -/
inductive IntWidth where
  | w1
  | w2
  | w3
  | w4
  | w8
  deriving DecidableEq, Repr

/-- The four float formats (42_float.md R251). -/
inductive FloatFormat where
  | f16
  | f32
  | f64
  | f80
  deriving DecidableEq, Repr

/-- A token (00_scope.md R4, R15): what CLASS, WCODE and ORDER select. A span, span-copy or ignore token
takes its length from LEN, so it carries no width here. -/
inductive Token where
  | int (sg : Signedness) (w : IntWidth) (order : ByteOrder)
  | float (f : FloatFormat) (order : ByteOrder)
  | span
  | spanCopy
  | ignore
  deriving DecidableEq, Repr

/-- The four operations of the OP field (30_encoding.md R105). -/
inductive Op where
  | get
  | put
  | putf
  | length
  deriving DecidableEq, Repr

/-- The instructions: one constructor for each row of spec/opcode_table.json, in the table's order. Only
the LENGTH row has operand fields, its token (40_contract.md R145). -/
inductive Instr where
  /-- `UINT8.get` (R170) -/
  | uint8Get
  /-- `UINT8.put` (R171) -/
  | uint8Put
  /-- `UINT8.putf` (R172) -/
  | uint8Putf
  /-- `UINT16_LE.get` (R173) -/
  | uint16LeGet
  /-- `UINT16_LE.put` (R174) -/
  | uint16LePut
  /-- `UINT16_LE.putf` (R175) -/
  | uint16LePutf
  /-- `UINT16_BE.get` (R176) -/
  | uint16BeGet
  /-- `UINT16_BE.put` (R177) -/
  | uint16BePut
  /-- `UINT16_BE.putf` (R178) -/
  | uint16BePutf
  /-- `UINT24_LE.get` (R179) -/
  | uint24LeGet
  /-- `UINT24_LE.put` (R180) -/
  | uint24LePut
  /-- `UINT24_LE.putf` (R181) -/
  | uint24LePutf
  /-- `UINT24_BE.get` (R182) -/
  | uint24BeGet
  /-- `UINT24_BE.put` (R183) -/
  | uint24BePut
  /-- `UINT24_BE.putf` (R184) -/
  | uint24BePutf
  /-- `UINT32_LE.get` (R185) -/
  | uint32LeGet
  /-- `UINT32_LE.put` (R186) -/
  | uint32LePut
  /-- `UINT32_LE.putf` (R187) -/
  | uint32LePutf
  /-- `UINT32_BE.get` (R188) -/
  | uint32BeGet
  /-- `UINT32_BE.put` (R189) -/
  | uint32BePut
  /-- `UINT32_BE.putf` (R190) -/
  | uint32BePutf
  /-- `UINT64_LE.get` (R191) -/
  | uint64LeGet
  /-- `UINT64_LE.put` (R192) -/
  | uint64LePut
  /-- `UINT64_LE.putf` (R193) -/
  | uint64LePutf
  /-- `UINT64_BE.get` (R194) -/
  | uint64BeGet
  /-- `UINT64_BE.put` (R195) -/
  | uint64BePut
  /-- `UINT64_BE.putf` (R196) -/
  | uint64BePutf
  /-- `INT8.get` (R197) -/
  | int8Get
  /-- `INT8.put` (R198) -/
  | int8Put
  /-- `INT8.putf` (R199) -/
  | int8Putf
  /-- `INT16_LE.get` (R200) -/
  | int16LeGet
  /-- `INT16_LE.put` (R201) -/
  | int16LePut
  /-- `INT16_LE.putf` (R202) -/
  | int16LePutf
  /-- `INT16_BE.get` (R203) -/
  | int16BeGet
  /-- `INT16_BE.put` (R204) -/
  | int16BePut
  /-- `INT16_BE.putf` (R205) -/
  | int16BePutf
  /-- `INT24_LE.get` (R206) -/
  | int24LeGet
  /-- `INT24_LE.put` (R207) -/
  | int24LePut
  /-- `INT24_LE.putf` (R208) -/
  | int24LePutf
  /-- `INT24_BE.get` (R209) -/
  | int24BeGet
  /-- `INT24_BE.put` (R210) -/
  | int24BePut
  /-- `INT24_BE.putf` (R211) -/
  | int24BePutf
  /-- `INT32_LE.get` (R212) -/
  | int32LeGet
  /-- `INT32_LE.put` (R213) -/
  | int32LePut
  /-- `INT32_LE.putf` (R214) -/
  | int32LePutf
  /-- `INT32_BE.get` (R215) -/
  | int32BeGet
  /-- `INT32_BE.put` (R216) -/
  | int32BePut
  /-- `INT32_BE.putf` (R217) -/
  | int32BePutf
  /-- `INT64_LE.get` (R218) -/
  | int64LeGet
  /-- `INT64_LE.put` (R219) -/
  | int64LePut
  /-- `INT64_LE.putf` (R220) -/
  | int64LePutf
  /-- `INT64_BE.get` (R221) -/
  | int64BeGet
  /-- `INT64_BE.put` (R222) -/
  | int64BePut
  /-- `INT64_BE.putf` (R223) -/
  | int64BePutf
  /-- `Float16_LE.get` (R270) -/
  | float16LeGet
  /-- `Float16_LE.put` (R271) -/
  | float16LePut
  /-- `Float16_LE.putf` (R272) -/
  | float16LePutf
  /-- `Float16_BE.get` (R273) -/
  | float16BeGet
  /-- `Float16_BE.put` (R274) -/
  | float16BePut
  /-- `Float16_BE.putf` (R275) -/
  | float16BePutf
  /-- `Float32_LE.get` (R276) -/
  | float32LeGet
  /-- `Float32_LE.put` (R277) -/
  | float32LePut
  /-- `Float32_LE.putf` (R278) -/
  | float32LePutf
  /-- `Float32_BE.get` (R279) -/
  | float32BeGet
  /-- `Float32_BE.put` (R280) -/
  | float32BePut
  /-- `Float32_BE.putf` (R281) -/
  | float32BePutf
  /-- `Float64_LE.get` (R282) -/
  | float64LeGet
  /-- `Float64_LE.put` (R283) -/
  | float64LePut
  /-- `Float64_LE.putf` (R284) -/
  | float64LePutf
  /-- `Float64_BE.get` (R285) -/
  | float64BeGet
  /-- `Float64_BE.put` (R286) -/
  | float64BePut
  /-- `Float64_BE.putf` (R287) -/
  | float64BePutf
  /-- `Float80_LE.get` (R288) -/
  | float80LeGet
  /-- `Float80_LE.put` (R289) -/
  | float80LePut
  /-- `Float80_LE.putf` (R290) -/
  | float80LePutf
  /-- `Float80_BE.get` (R291) -/
  | float80BeGet
  /-- `Float80_BE.put` (R292) -/
  | float80BePut
  /-- `Float80_BE.putf` (R293) -/
  | float80BePutf
  /-- `SPAN.get` (R330) -/
  | spanGet
  /-- `SPANCOPY.get` (R332) -/
  | spanCopyGet
  /-- `IGNORE.get` (R333) -/
  | ignoreGet
  /-- `<TOKEN>.len` (R145) -/
  | len (tok : Token)
  deriving DecidableEq, Repr

end Sys2Proof
end

