-- ==== Sys2Proof/WellFormed.lean ====
section
/-! DEFINITION. Which instructions the encoding admits (spec/30_encoding.md R103, R104). -/

namespace Sys2Proof

/-- The tokens of the catalogue: a single byte has no byte order, so a 1-byte token is written with LE
(30_encoding.md R103; 20_memory.md R71). -/
def Token.wellFormed : Token → Bool
  | .int _ .w1 .be => false
  | .int _ _ _ => true
  | .float _ _ => true
  | .span => true
  | .spanCopy => true
  | .ignore => true

/-- The well-formed instructions: a LENGTH command names a token of the catalogue (40_contract.md R145);
the other rows have no operand field (30_encoding.md R111). -/
def Instr.wellFormed : Instr → Bool
  | .len tok => tok.wellFormed
  | .uint8Get | .uint8Put | .uint8Putf | .uint16LeGet | .uint16LePut | .uint16LePutf
  | .uint16BeGet | .uint16BePut | .uint16BePutf | .uint24LeGet | .uint24LePut | .uint24LePutf
  | .uint24BeGet | .uint24BePut | .uint24BePutf | .uint32LeGet | .uint32LePut | .uint32LePutf
  | .uint32BeGet | .uint32BePut | .uint32BePutf | .uint64LeGet | .uint64LePut | .uint64LePutf
  | .uint64BeGet | .uint64BePut | .uint64BePutf | .int8Get | .int8Put | .int8Putf | .int16LeGet
  | .int16LePut | .int16LePutf | .int16BeGet | .int16BePut | .int16BePutf | .int24LeGet
  | .int24LePut | .int24LePutf | .int24BeGet | .int24BePut | .int24BePutf | .int32LeGet
  | .int32LePut | .int32LePutf | .int32BeGet | .int32BePut | .int32BePutf | .int64LeGet
  | .int64LePut | .int64LePutf | .int64BeGet | .int64BePut | .int64BePutf | .float16LeGet
  | .float16LePut | .float16LePutf | .float16BeGet | .float16BePut | .float16BePutf | .float32LeGet
  | .float32LePut | .float32LePutf | .float32BeGet | .float32BePut | .float32BePutf | .float64LeGet
  | .float64LePut | .float64LePutf | .float64BeGet | .float64BePut | .float64BePutf | .float80LeGet
  | .float80LePut | .float80LePutf | .float80BeGet | .float80BePut | .float80BePutf | .spanGet
  | .spanCopyGet | .ignoreGet => true

end Sys2Proof
end

