-- ==== Sys2Proof/Decode.lean ====
section
/-! DEFINITION. The command word of TTC-1 (spec/30_encoding.md): its fields, the decoder, total on all 2^32
words and refusing by name, the encoder, the rows of the opcode table, and the layout of a table row's
bits as a command word. -/

namespace Sys2Proof

/-! ### The fields of a command word (R100) -/

/-- OP, bits [1:0]. -/
def fieldOp (w : CommandWord) : BitVec 2 := w.extractLsb' 0 2

/-- CLASS, bits [4:2]. -/
def fieldClass (w : CommandWord) : BitVec 3 := w.extractLsb' 2 3

/-- WCODE, bits [7:5]. -/
def fieldWcode (w : CommandWord) : BitVec 3 := w.extractLsb' 5 3

/-- ORDER, bit [8]. -/
def fieldOrder (w : CommandWord) : BitVec 1 := w.extractLsb' 8 1

/-- RSVD, bits [31:9]. -/
def fieldRsvd (w : CommandWord) : BitVec 23 := w.extractLsb' 9 23

/-! ### Why a word is illegal (R107) -/

/-- The reasons of R107, by name. Each ends the command with STATUS = ILLEGAL_COMMAND (R341). -/
inductive DecodeError where
  /-- RSVD is not 0 (R106). -/
  | reservedBits
  /-- CLASS is 110 or 111, the text classes that are out of scope (R101). -/
  | reservedClass
  /-- CLASS is UINT, SINT or FLOAT and WCODE is 110 or 111 (R102). -/
  | reservedWidth
  /-- WCODE 101 on an integer class, or 000 or 010 on FLOAT (R103). -/
  | illegalWidth
  /-- ORDER is 1 on a 1-byte integer token (R103). -/
  | orderOnOneByte
  /-- WCODE is not 000 on a span or ignore class (R104). -/
  | spanWidth
  /-- ORDER is 1 on a span or ignore class (R104). -/
  | spanOrder
  /-- OP is PUT or PUTF on a span or ignore class, which have no encode (R104). -/
  | spanEncode
  /-- LEN is 0 for a span or ignore token, checked after the word has matched (R104, R108). -/
  | zeroLength
  deriving DecidableEq, Repr

/-! ### The fields' values (R101 to R105) -/

/-- OP (R105): 00 GET, 01 PUT, 10 PUTF, 11 LENGTH. -/
def opOf (op : BitVec 2) : Op :=
  match op.toNat with
  | 0 => .get
  | 1 => .put
  | 2 => .putf
  | _ => .length

/-- WCODE of an integer class (R102, R103): 000 to 100 are 1, 2, 3, 4 and 8 bytes. -/
def intWidthOf (wcode : BitVec 3) : Except DecodeError IntWidth :=
  match wcode.toNat with
  | 0 => .ok .w1
  | 1 => .ok .w2
  | 2 => .ok .w3
  | 3 => .ok .w4
  | 4 => .ok .w8
  | 5 => .error .illegalWidth
  | _ => .error .reservedWidth

/-- WCODE of class FLOAT (R102, R103): 001, 011, 100, 101 are 2, 4, 8 and 10 bytes. -/
def floatFormatOf (wcode : BitVec 3) : Except DecodeError FloatFormat :=
  match wcode.toNat with
  | 0 => .error .illegalWidth
  | 1 => .ok .f16
  | 2 => .error .illegalWidth
  | 3 => .ok .f32
  | 4 => .ok .f64
  | 5 => .ok .f80
  | _ => .error .reservedWidth

/-- ORDER (R100): 0 Little-Endian, 1 Big-Endian. -/
def orderOf (order : BitVec 1) : ByteOrder := if order = 1#1 then .be else .le

/-- An integer token, with R103's rule that a single byte has no byte order. -/
def intTokenOf (sg : Signedness) (wcode : BitVec 3) (order : BitVec 1) : Except DecodeError Token :=
  match intWidthOf wcode with
  | .error e => .error e
  | .ok w =>
    if (Token.int sg w (orderOf order)).wellFormed then .ok (.int sg w (orderOf order))
    else .error .orderOnOneByte

/-- A float token (R103). -/
def floatTokenOf (wcode : BitVec 3) (order : BitVec 1) : Except DecodeError Token :=
  match floatFormatOf wcode with
  | .error e => .error e
  | .ok f => .ok (.float f (orderOf order))

/-- A span, span-copy or ignore token, which requires WCODE = 000 and ORDER = 0 (R104). -/
def spanTokenOf (tok : Token) (wcode : BitVec 3) (order : BitVec 1) : Except DecodeError Token :=
  if wcode ≠ 0#3 then .error .spanWidth
  else if order ≠ 0#1 then .error .spanOrder
  else .ok tok

/-- CLASS, WCODE and ORDER (R101, R103, R104): the token they select, or why there is none. -/
def tokenOf (cls wcode : BitVec 3) (order : BitVec 1) : Except DecodeError Token :=
  match cls.toNat with
  | 0 => intTokenOf .unsigned wcode order
  | 1 => intTokenOf .signed wcode order
  | 2 => floatTokenOf wcode order
  | 3 => spanTokenOf .span wcode order
  | 4 => spanTokenOf .spanCopy wcode order
  | 5 => spanTokenOf .ignore wcode order
  | _ => .error .reservedClass

/-- The `get` instruction of each token (R110), or why the token has none. -/
def getInstr : Token → Except DecodeError Instr
  | .int .unsigned .w1 .le => .ok .uint8Get
  | .int .unsigned .w1 .be => .error .orderOnOneByte
  | .int .unsigned .w2 .le => .ok .uint16LeGet
  | .int .unsigned .w2 .be => .ok .uint16BeGet
  | .int .unsigned .w3 .le => .ok .uint24LeGet
  | .int .unsigned .w3 .be => .ok .uint24BeGet
  | .int .unsigned .w4 .le => .ok .uint32LeGet
  | .int .unsigned .w4 .be => .ok .uint32BeGet
  | .int .unsigned .w8 .le => .ok .uint64LeGet
  | .int .unsigned .w8 .be => .ok .uint64BeGet
  | .int .signed .w1 .le => .ok .int8Get
  | .int .signed .w1 .be => .error .orderOnOneByte
  | .int .signed .w2 .le => .ok .int16LeGet
  | .int .signed .w2 .be => .ok .int16BeGet
  | .int .signed .w3 .le => .ok .int24LeGet
  | .int .signed .w3 .be => .ok .int24BeGet
  | .int .signed .w4 .le => .ok .int32LeGet
  | .int .signed .w4 .be => .ok .int32BeGet
  | .int .signed .w8 .le => .ok .int64LeGet
  | .int .signed .w8 .be => .ok .int64BeGet
  | .float .f16 .le => .ok .float16LeGet
  | .float .f16 .be => .ok .float16BeGet
  | .float .f32 .le => .ok .float32LeGet
  | .float .f32 .be => .ok .float32BeGet
  | .float .f64 .le => .ok .float64LeGet
  | .float .f64 .be => .ok .float64BeGet
  | .float .f80 .le => .ok .float80LeGet
  | .float .f80 .be => .ok .float80BeGet
  | .span => .ok .spanGet
  | .spanCopy => .ok .spanCopyGet
  | .ignore => .ok .ignoreGet

/-- The `put` instruction of each token (R110), or why the token has none. -/
def putInstr : Token → Except DecodeError Instr
  | .int .unsigned .w1 .le => .ok .uint8Put
  | .int .unsigned .w1 .be => .error .orderOnOneByte
  | .int .unsigned .w2 .le => .ok .uint16LePut
  | .int .unsigned .w2 .be => .ok .uint16BePut
  | .int .unsigned .w3 .le => .ok .uint24LePut
  | .int .unsigned .w3 .be => .ok .uint24BePut
  | .int .unsigned .w4 .le => .ok .uint32LePut
  | .int .unsigned .w4 .be => .ok .uint32BePut
  | .int .unsigned .w8 .le => .ok .uint64LePut
  | .int .unsigned .w8 .be => .ok .uint64BePut
  | .int .signed .w1 .le => .ok .int8Put
  | .int .signed .w1 .be => .error .orderOnOneByte
  | .int .signed .w2 .le => .ok .int16LePut
  | .int .signed .w2 .be => .ok .int16BePut
  | .int .signed .w3 .le => .ok .int24LePut
  | .int .signed .w3 .be => .ok .int24BePut
  | .int .signed .w4 .le => .ok .int32LePut
  | .int .signed .w4 .be => .ok .int32BePut
  | .int .signed .w8 .le => .ok .int64LePut
  | .int .signed .w8 .be => .ok .int64BePut
  | .float .f16 .le => .ok .float16LePut
  | .float .f16 .be => .ok .float16BePut
  | .float .f32 .le => .ok .float32LePut
  | .float .f32 .be => .ok .float32BePut
  | .float .f64 .le => .ok .float64LePut
  | .float .f64 .be => .ok .float64BePut
  | .float .f80 .le => .ok .float80LePut
  | .float .f80 .be => .ok .float80BePut
  | .span => .error .spanEncode
  | .spanCopy => .error .spanEncode
  | .ignore => .error .spanEncode

/-- The `putf` instruction of each token (R110), or why the token has none. -/
def putfInstr : Token → Except DecodeError Instr
  | .int .unsigned .w1 .le => .ok .uint8Putf
  | .int .unsigned .w1 .be => .error .orderOnOneByte
  | .int .unsigned .w2 .le => .ok .uint16LePutf
  | .int .unsigned .w2 .be => .ok .uint16BePutf
  | .int .unsigned .w3 .le => .ok .uint24LePutf
  | .int .unsigned .w3 .be => .ok .uint24BePutf
  | .int .unsigned .w4 .le => .ok .uint32LePutf
  | .int .unsigned .w4 .be => .ok .uint32BePutf
  | .int .unsigned .w8 .le => .ok .uint64LePutf
  | .int .unsigned .w8 .be => .ok .uint64BePutf
  | .int .signed .w1 .le => .ok .int8Putf
  | .int .signed .w1 .be => .error .orderOnOneByte
  | .int .signed .w2 .le => .ok .int16LePutf
  | .int .signed .w2 .be => .ok .int16BePutf
  | .int .signed .w3 .le => .ok .int24LePutf
  | .int .signed .w3 .be => .ok .int24BePutf
  | .int .signed .w4 .le => .ok .int32LePutf
  | .int .signed .w4 .be => .ok .int32BePutf
  | .int .signed .w8 .le => .ok .int64LePutf
  | .int .signed .w8 .be => .ok .int64BePutf
  | .float .f16 .le => .ok .float16LePutf
  | .float .f16 .be => .ok .float16BePutf
  | .float .f32 .le => .ok .float32LePutf
  | .float .f32 .be => .ok .float32BePutf
  | .float .f64 .le => .ok .float64LePutf
  | .float .f64 .be => .ok .float64BePutf
  | .float .f80 .le => .ok .float80LePutf
  | .float .f80 .be => .ok .float80BePutf
  | .span => .error .spanEncode
  | .spanCopy => .error .spanEncode
  | .ignore => .error .spanEncode

/-- The instruction of an operation and a token (R105, R110). -/
def instrOf : Op → Token → Except DecodeError Instr
  | .get, tok => getInstr tok
  | .put, tok => putInstr tok
  | .putf, tok => putfInstr tok
  | .length, tok => .ok (.len tok)

/-- The decoder: the one row of the opcode table a command word matches, or why the word is illegal
(R107, R108). It reads the word alone; LEN is `decodeCmd`'s. -/
def decode (w : CommandWord) : Except DecodeError Instr :=
  if fieldRsvd w ≠ 0#23 then .error .reservedBits
  else
    match tokenOf (fieldClass w) (fieldWcode w) (fieldOrder w) with
    | .error e => .error e
    | .ok tok => instrOf (opOf (fieldOp w)) tok

/-! ### What an instruction's word says -/

/-- The operation of an instruction (R105). -/
def Instr.op : Instr → Op
  | .uint8Get => .get
  | .uint8Put => .put
  | .uint8Putf => .putf
  | .uint16LeGet => .get
  | .uint16LePut => .put
  | .uint16LePutf => .putf
  | .uint16BeGet => .get
  | .uint16BePut => .put
  | .uint16BePutf => .putf
  | .uint24LeGet => .get
  | .uint24LePut => .put
  | .uint24LePutf => .putf
  | .uint24BeGet => .get
  | .uint24BePut => .put
  | .uint24BePutf => .putf
  | .uint32LeGet => .get
  | .uint32LePut => .put
  | .uint32LePutf => .putf
  | .uint32BeGet => .get
  | .uint32BePut => .put
  | .uint32BePutf => .putf
  | .uint64LeGet => .get
  | .uint64LePut => .put
  | .uint64LePutf => .putf
  | .uint64BeGet => .get
  | .uint64BePut => .put
  | .uint64BePutf => .putf
  | .int8Get => .get
  | .int8Put => .put
  | .int8Putf => .putf
  | .int16LeGet => .get
  | .int16LePut => .put
  | .int16LePutf => .putf
  | .int16BeGet => .get
  | .int16BePut => .put
  | .int16BePutf => .putf
  | .int24LeGet => .get
  | .int24LePut => .put
  | .int24LePutf => .putf
  | .int24BeGet => .get
  | .int24BePut => .put
  | .int24BePutf => .putf
  | .int32LeGet => .get
  | .int32LePut => .put
  | .int32LePutf => .putf
  | .int32BeGet => .get
  | .int32BePut => .put
  | .int32BePutf => .putf
  | .int64LeGet => .get
  | .int64LePut => .put
  | .int64LePutf => .putf
  | .int64BeGet => .get
  | .int64BePut => .put
  | .int64BePutf => .putf
  | .float16LeGet => .get
  | .float16LePut => .put
  | .float16LePutf => .putf
  | .float16BeGet => .get
  | .float16BePut => .put
  | .float16BePutf => .putf
  | .float32LeGet => .get
  | .float32LePut => .put
  | .float32LePutf => .putf
  | .float32BeGet => .get
  | .float32BePut => .put
  | .float32BePutf => .putf
  | .float64LeGet => .get
  | .float64LePut => .put
  | .float64LePutf => .putf
  | .float64BeGet => .get
  | .float64BePut => .put
  | .float64BePutf => .putf
  | .float80LeGet => .get
  | .float80LePut => .put
  | .float80LePutf => .putf
  | .float80BeGet => .get
  | .float80BePut => .put
  | .float80BePutf => .putf
  | .spanGet => .get
  | .spanCopyGet => .get
  | .ignoreGet => .get
  | .len _ => .length

/-- The token of an instruction (R110). -/
def Instr.token : Instr → Token
  | .uint8Get => .int .unsigned .w1 .le
  | .uint8Put => .int .unsigned .w1 .le
  | .uint8Putf => .int .unsigned .w1 .le
  | .uint16LeGet => .int .unsigned .w2 .le
  | .uint16LePut => .int .unsigned .w2 .le
  | .uint16LePutf => .int .unsigned .w2 .le
  | .uint16BeGet => .int .unsigned .w2 .be
  | .uint16BePut => .int .unsigned .w2 .be
  | .uint16BePutf => .int .unsigned .w2 .be
  | .uint24LeGet => .int .unsigned .w3 .le
  | .uint24LePut => .int .unsigned .w3 .le
  | .uint24LePutf => .int .unsigned .w3 .le
  | .uint24BeGet => .int .unsigned .w3 .be
  | .uint24BePut => .int .unsigned .w3 .be
  | .uint24BePutf => .int .unsigned .w3 .be
  | .uint32LeGet => .int .unsigned .w4 .le
  | .uint32LePut => .int .unsigned .w4 .le
  | .uint32LePutf => .int .unsigned .w4 .le
  | .uint32BeGet => .int .unsigned .w4 .be
  | .uint32BePut => .int .unsigned .w4 .be
  | .uint32BePutf => .int .unsigned .w4 .be
  | .uint64LeGet => .int .unsigned .w8 .le
  | .uint64LePut => .int .unsigned .w8 .le
  | .uint64LePutf => .int .unsigned .w8 .le
  | .uint64BeGet => .int .unsigned .w8 .be
  | .uint64BePut => .int .unsigned .w8 .be
  | .uint64BePutf => .int .unsigned .w8 .be
  | .int8Get => .int .signed .w1 .le
  | .int8Put => .int .signed .w1 .le
  | .int8Putf => .int .signed .w1 .le
  | .int16LeGet => .int .signed .w2 .le
  | .int16LePut => .int .signed .w2 .le
  | .int16LePutf => .int .signed .w2 .le
  | .int16BeGet => .int .signed .w2 .be
  | .int16BePut => .int .signed .w2 .be
  | .int16BePutf => .int .signed .w2 .be
  | .int24LeGet => .int .signed .w3 .le
  | .int24LePut => .int .signed .w3 .le
  | .int24LePutf => .int .signed .w3 .le
  | .int24BeGet => .int .signed .w3 .be
  | .int24BePut => .int .signed .w3 .be
  | .int24BePutf => .int .signed .w3 .be
  | .int32LeGet => .int .signed .w4 .le
  | .int32LePut => .int .signed .w4 .le
  | .int32LePutf => .int .signed .w4 .le
  | .int32BeGet => .int .signed .w4 .be
  | .int32BePut => .int .signed .w4 .be
  | .int32BePutf => .int .signed .w4 .be
  | .int64LeGet => .int .signed .w8 .le
  | .int64LePut => .int .signed .w8 .le
  | .int64LePutf => .int .signed .w8 .le
  | .int64BeGet => .int .signed .w8 .be
  | .int64BePut => .int .signed .w8 .be
  | .int64BePutf => .int .signed .w8 .be
  | .float16LeGet => .float .f16 .le
  | .float16LePut => .float .f16 .le
  | .float16LePutf => .float .f16 .le
  | .float16BeGet => .float .f16 .be
  | .float16BePut => .float .f16 .be
  | .float16BePutf => .float .f16 .be
  | .float32LeGet => .float .f32 .le
  | .float32LePut => .float .f32 .le
  | .float32LePutf => .float .f32 .le
  | .float32BeGet => .float .f32 .be
  | .float32BePut => .float .f32 .be
  | .float32BePutf => .float .f32 .be
  | .float64LeGet => .float .f64 .le
  | .float64LePut => .float .f64 .le
  | .float64LePutf => .float .f64 .le
  | .float64BeGet => .float .f64 .be
  | .float64BePut => .float .f64 .be
  | .float64BePutf => .float .f64 .be
  | .float80LeGet => .float .f80 .le
  | .float80LePut => .float .f80 .le
  | .float80LePutf => .float .f80 .le
  | .float80BeGet => .float .f80 .be
  | .float80BePut => .float .f80 .be
  | .float80BePutf => .float .f80 .be
  | .spanGet => .span
  | .spanCopyGet => .spanCopy
  | .ignoreGet => .ignore
  | .len tok => tok

/-- Whether the token takes its length from LEN (R102): span, span-copy and ignore do. -/
def Token.usesLen : Token → Bool
  | .int _ _ _ => false
  | .float _ _ => false
  | .span => true
  | .spanCopy => true
  | .ignore => true

/-- `decodeCmd(CMD, LEN)` (R108): the word's row, with LEN >= 1 checked after it has matched. -/
def decodeCmd (w : CommandWord) (len : Nat) : Except DecodeError Instr :=
  match decode w with
  | .error e => .error e
  | .ok i => if i.token.usesLen && len == 0 then .error .zeroLength else .ok i

/-! ### The encoder, from the same tables (R100 to R105) -/

/-- OP of an operation. -/
def opField : Op → BitVec 2
  | .get => 0b00#2
  | .put => 0b01#2
  | .putf => 0b10#2
  | .length => 0b11#2

/-- WCODE of an integer width. -/
def intWidthField : IntWidth → BitVec 3
  | .w1 => 0b000#3
  | .w2 => 0b001#3
  | .w3 => 0b010#3
  | .w4 => 0b011#3
  | .w8 => 0b100#3

/-- WCODE of a float format. -/
def floatFormatField : FloatFormat → BitVec 3
  | .f16 => 0b001#3
  | .f32 => 0b011#3
  | .f64 => 0b100#3
  | .f80 => 0b101#3

/-- ORDER of a byte order. -/
def orderField : ByteOrder → BitVec 1
  | .le => 0b0#1
  | .be => 0b1#1

/-- CLASS of a token. -/
def Token.classField : Token → BitVec 3
  | .int .unsigned _ _ => 0b000#3
  | .int .signed _ _ => 0b001#3
  | .float _ _ => 0b010#3
  | .span => 0b011#3
  | .spanCopy => 0b100#3
  | .ignore => 0b101#3

/-- WCODE of a token. -/
def Token.wcodeField : Token → BitVec 3
  | .int _ w _ => intWidthField w
  | .float f _ => floatFormatField f
  | .span => 0b000#3
  | .spanCopy => 0b000#3
  | .ignore => 0b000#3

/-- ORDER of a token. -/
def Token.orderBit : Token → BitVec 1
  | .int _ _ o => orderField o
  | .float _ o => orderField o
  | .span => 0b0#1
  | .spanCopy => 0b0#1
  | .ignore => 0b0#1

/-- The command word of an operation on a token: RSVD, ORDER, WCODE, CLASS, OP from the most significant
bit down (R100). -/
def encodeFields (op : Op) (tok : Token) : CommandWord :=
  0#23 ++ tok.orderBit ++ tok.wcodeField ++ tok.classField ++ opField op

/-- The command word of an instruction. -/
def encode (i : Instr) : CommandWord := encodeFields i.op i.token

/-! ### The rows of the opcode table (R108, R110, R111) -/

/-- One row of spec/opcode_table.json: a word matches it when its bits under the mask are `pattern`. -/
structure Row where
  pattern : CommandWord
  mask : CommandWord
  deriving DecidableEq, Repr

/-- Whether a word matches a row. -/
def Row.admits (r : Row) (w : CommandWord) : Bool := (w &&& r.mask) == r.pattern

/-- A row whose whole word is fixed (R111). -/
def Row.fixed (pattern : CommandWord) : Row := { pattern := pattern, mask := 0xFFFFFFFF#32 }

/-- The rows of the unsigned integer tokens, in the table's order. -/
def uintRows : List Row :=
  [0x0#32, 0x1#32, 0x2#32, 0x20#32, 0x21#32, 0x22#32, 0x120#32, 0x121#32, 0x122#32,
   0x40#32, 0x41#32, 0x42#32, 0x140#32, 0x141#32, 0x142#32, 0x60#32, 0x61#32, 0x62#32,
   0x160#32, 0x161#32, 0x162#32, 0x80#32, 0x81#32, 0x82#32, 0x180#32, 0x181#32, 0x182#32].map Row.fixed

/-- The rows of the signed integer tokens, in the table's order. -/
def sintRows : List Row :=
  [0x4#32, 0x5#32, 0x6#32, 0x24#32, 0x25#32, 0x26#32, 0x124#32, 0x125#32, 0x126#32,
   0x44#32, 0x45#32, 0x46#32, 0x144#32, 0x145#32, 0x146#32, 0x64#32, 0x65#32, 0x66#32,
   0x164#32, 0x165#32, 0x166#32, 0x84#32, 0x85#32, 0x86#32, 0x184#32, 0x185#32, 0x186#32].map Row.fixed

/-- The rows of the float tokens, in the table's order. -/
def floatRows : List Row :=
  [0x28#32, 0x29#32, 0x2A#32, 0x128#32, 0x129#32, 0x12A#32, 0x68#32, 0x69#32, 0x6A#32,
   0x168#32, 0x169#32, 0x16A#32, 0x88#32, 0x89#32, 0x8A#32, 0x188#32, 0x189#32, 0x18A#32,
   0xA8#32, 0xA9#32, 0xAA#32, 0x1A8#32, 0x1A9#32, 0x1AA#32].map Row.fixed

/-- The rows of the span, span-copy and ignore tokens, in the table's order. -/
def spanRows : List Row :=
  [0xC#32, 0x10#32, 0x14#32].map Row.fixed

/-- The LENGTH row: OP and RSVD are fixed, the token fields are its operands (R111). -/
def lengthRow : Row := { pattern := 0x00000003#32, mask := 0xFFFFFE03#32 }

/-- The 82 rows of spec/opcode_table.json. -/
def opcodeRows : List Row := uintRows ++ sintRows ++ floatRows ++ spanRows ++ [lengthRow]

/-- The row of an instruction: the LENGTH row, or the row of its one word. -/
def Instr.row (i : Instr) : Row :=
  match i.op with
  | .get => Row.fixed (encode i)
  | .put => Row.fixed (encode i)
  | .putf => Row.fixed (encode i)
  | .length => lengthRow

/-! ### A row's bits as a command word -/

/-- A table row's `nbits` bits as a command word. A command word reaches CMD as one 32-bit value through
the port (20_memory.md R73), bit 0 its least significant; the bits above `nbits` are 0. -/
def wordOfBits (nbits w : Nat) : CommandWord := BitVec.ofNat 32 (w % 2 ^ nbits)

/-- The instruction the decoder reads from a table row's bits, or none where it refuses. -/
def decodeTableWord (nbits w : Nat) : Option Instr :=
  match decode (wordOfBits nbits w) with
  | .ok i => some i
  | .error _ => none

end Sys2Proof
end

