-- ==== Sys2Proof/Machine/State.lean ====
section
/-! DEFINITION. The state of TTC as plain data (spec/10_state.md): the port registers and control state of
every codec unit, the buffer, the views the host holds, the schedule that says who moves next, the reasons
a run stops, and the machine right after reset. -/

namespace Sys2Proof.Machine

/-! ### Codes -/

/-- The outcomes a command can end with (60_exceptions.md R340); `Status.code` gives the 4-bit number.
Codes 6 and 7 are reserved for the text codecs and never written (R348); 8 to 15 are reserved and have no
name. -/
inductive Status where
  /-- 0: the command succeeded. -/
  | ok
  /-- 1: the command word or LEN is illegal (R341). -/
  | illegalCommand
  /-- 2: an integer encode value is outside the token's range (R343). -/
  | outOfRange
  /-- 3: OFFSET + n > BUF_SIZE on a `get` or `put` (R345). -/
  | outOfBounds
  /-- 4: a `putf` window does not fit and FLUSH_CB = 0 (R346). -/
  | noFlushCallback
  /-- 5: after a flush, n > BUF_SIZE (R347). -/
  | flushNoRoom
  /-- 6: reserved for the text codecs; never written (R348). -/
  | invalidEncodingByte
  /-- 7: reserved for the text codecs; never written (R348). -/
  | malformedSequence
  deriving DecidableEq, Repr

/-- The kinds of value a command returns (10_state.md R43); `RTag.code` gives the 3-bit number. 7 is never
written and has no name. -/
inductive RTag where
  /-- 0 NONE: no value. -/
  | noValue
  /-- 1 UINT: RESULT holds an unsigned integer. -/
  | uint
  /-- 2 SINT: RESULT holds a signed integer, two's complement. -/
  | sint
  /-- 3 FLOAT: RESULT holds IEEE-754 double bits. -/
  | float
  /-- 4 VIEW: RESULT holds a view base, RLEN its length. -/
  | view
  /-- 5 BYTES: RDATA holds RLEN copied bytes. -/
  | bytes
  /-- 6 LENGTH: RLEN holds a token length. -/
  | length
  deriving DecidableEq, Repr

/-- UNIT_STATE (10_state.md R49): IDLE (0) or FLUSH_WAIT (1). -/
inductive UnitState where
  | idle
  | flushWait
  deriving DecidableEq, Repr

/-! ### Responses and pending work -/

/-- The response fields a successful command lists (40_contract.md R132): `none` is a field it does not
write, which is then absent (10_state.md R56). -/
structure Response where
  /-- RTAG. -/
  rtag : RTag
  /-- RESULT. -/
  result : Option Word64 := none
  /-- RLEN. -/
  rlen : Option Nat := none
  /-- RDATA. -/
  rdata : Option (List Byte) := none
  /-- NEXT. -/
  next : Option Nat := none
  /-- DELTA. -/
  delta : Option Int := none
  deriving DecidableEq, Repr

/-- CTX, the hidden context of a unit in FLUSH_WAIT (10_state.md R50): the token, the original OFFSET, the
bytes to be written, fixed before the flush, and the BUF_SIZE of the issue. -/
structure FlushContext where
  tok : Token
  offset : Nat
  bytes : List Byte
  bufSize : Nat
  deriving DecidableEq, Repr

/-- A command between its issue and its response when its byte accesses are made one at a time, which only
several units do (20_memory.md R79; log 10). What it holds was latched at issue. -/
inductive Flight where
  /-- No byte access is left: the response can be written. -/
  | respond (r : Response)
  /-- The window of a `get` at `o`: byte k is `none` until it has been read. -/
  | read (tok : Token) (o : Nat) (got : List (Option Byte))
  /-- The window of an encode at `base`, `o` being the command's OFFSET: the indices `todo` of `bs` are
  still to be written. -/
  | write (base o : Nat) (bs : List Byte) (todo : List Nat)
  deriving DecidableEq, Repr

/-! ### A codec unit -/

/-- The registers and control state of one codec unit (10_state.md R33, R49 to R52). A register of
OFFSET_BITS bits is held as the unsigned integer it reads as, DELTA as the signed integer (log 1); an
`Option` is `none` where the register holds nothing a host may read (R56). -/
structure CodecUnit where
  /-- 0 CMD: the command word (R36). -/
  cmd : CommandWord
  /-- 1 OFFSET: the first byte of the window (R38). -/
  offset : Nat
  /-- 2 LEN: the length N of span and ignore tokens (R39). -/
  len : Nat
  /-- 3 VALUE: the encode operand (R40). -/
  value : ValueWord
  /-- 4 BUF_SIZE: the size of BUF in bytes (R35). -/
  bufSize : Nat
  /-- 5 FLUSH_CB: a flush callback is supplied (R41). -/
  flushCb : Bool
  /-- 6 STATUS: the outcome of the last command that ended (R42). -/
  status : Status
  /-- 7 RTAG: the kind of value (R43); absent while a command is pending (40_contract.md R131; log 8). -/
  rtag : Option RTag
  /-- 8 RESULT (R44). -/
  result : Option Word64
  /-- 9 RLEN (R45). -/
  rlen : Option Nat
  /-- RDATA, not numbered (R46). -/
  rdata : Option (List Byte)
  /-- 10 NEXT (R47). -/
  next : Option Nat
  /-- 11 DELTA (R48). -/
  delta : Option Int
  /-- 12 UNIT_STATE (R49). -/
  unitState : UnitState
  /-- 13 FLUSH_REQ (R51). -/
  flushReq : Bool
  /-- 14 FLUSH_OFF: the offset passed with a flush request (R51). -/
  flushOff : Option Nat
  /-- 15 FLUSH_ACK: the host's flush completion (R52). -/
  flushAck : Bool
  /-- CTX: hidden, no value in IDLE (R50). -/
  ctx : Option FlushContext
  /-- The byte accesses still to be made of a command that is run split (20_memory.md R79; log 10). -/
  flight : Option Flight
  deriving DecidableEq, Repr

/-- The registers of a unit at reset (10_state.md R33; 70_reset_and_hazards.md R370). -/
def CodecUnit.reset : CodecUnit where
  cmd := 0
  offset := 0
  len := 0
  value := 0
  bufSize := 0
  flushCb := false
  status := .ok
  rtag := some .noValue
  result := none
  rlen := none
  rdata := none
  next := none
  delta := none
  unitState := .idle
  flushReq := false
  flushOff := none
  flushAck := false
  ctx := none
  flight := none

/-! ### The host -/

/-- The registers a host can read (10_state.md R33), and RDATA, which has no number (R46). -/
inductive PortReg where
  | cmd
  | offset
  | len
  | value
  | bufSize
  | flushCb
  | status
  | rtag
  | result
  | rlen
  | next
  | delta
  | unitState
  | flushReq
  | flushOff
  | flushAck
  | rdata
  deriving DecidableEq, Repr

/-- A value the host has read. -/
inductive HostDatum where
  /-- A bit field or an unsigned integer. -/
  | unsigned (n : Nat)
  /-- The signed integer DELTA. -/
  | signed (z : Int)
  /-- The byte list RDATA. -/
  | bytes (bs : List Byte)
  deriving DecidableEq, Repr

/-- A write of a register the host writes (10_state.md R33). -/
inductive RegWrite where
  | cmd (v : CommandWord)
  | offset (v : Nat)
  | len (v : Nat)
  | value (v : ValueWord)
  | bufSize (v : Nat)
  | flushCb (v : Bool)
  | flushAck (v : Bool)
  deriving DecidableEq, Repr

/-- A view returned by `SPAN.get` as the host holds it: base and length (43_span.md R331). -/
structure SpanView where
  base : Nat
  len : Nat
  deriving DecidableEq, Repr

/-- The moves of the agents (10_state.md R31): what the host can do, and the steps of the units. -/
inductive Move where
  /-- The host writes a register of unit `u` (R33; 40_contract.md R130). -/
  | writeReg (u : Nat) (w : RegWrite)
  /-- The host reads a register of unit `u` (R56). -/
  | readReg (u : Nat) (r : PortReg)
  /-- The host issues the command unit `u` holds, and the unit runs it in one step (40_contract.md R130,
  R131; 70_reset_and_hazards.md R380). -/
  | issue (u : Nat)
  /-- The host issues the command unit `u` holds, and its byte accesses are separate moves when there are
  several units (20_memory.md R79; log 10). -/
  | begin (u : Nat)
  /-- Unit `u` makes the access to byte `k` of its window (20_memory.md R79). -/
  | access (u k : Nat)
  /-- Unit `u` writes the response of a command that is run split (20_memory.md R84). -/
  | finish (u : Nat)
  /-- Unit `u` takes step 2 of the flush handshake (40_contract.md R140). -/
  | resume (u : Nat)
  /-- The same with the byte accesses as separate moves when there are several units (20_memory.md R79). -/
  | resumeSplit (u : Nat)
  /-- Unit `u` is reset (70_reset_and_hazards.md R370 to R372). -/
  | reset (u : Nat)
  /-- The host reads a byte of BUF (20_memory.md R89). -/
  | bufRead (a : Nat)
  /-- The host writes a byte of BUF (20_memory.md R89). -/
  | bufWrite (a : Nat) (b : Byte)
  /-- The host takes the view unit `u` has returned (43_span.md R330, R331). -/
  | takeView (u : Nat)
  /-- ViewRead of the host's view number `v` at index `i` (43_span.md R331). -/
  | viewRead (v i : Nat)
  /-- ViewWrite of the host's view number `v` at index `i` (43_span.md R331). -/
  | viewWrite (v i : Nat) (b : Byte)
  deriving DecidableEq, Repr

/-! ### The machine -/

/-- BUF's bytes: the cells something has written, addresses strictly rising (`Memory.wf`). An address
with no cell holds a byte nothing has written, which reads as a free value (log 4). -/
abbrev Memory := List Host.Cell

/-- The state of TTC. -/
structure State where
  /-- The parameters of 00_scope.md R7, fixed before reset (log 2). -/
  params : Params
  /-- The codec units, numbered from 0 (60_exceptions.md R359). -/
  units : List CodecUnit
  /-- BUF, the only state the units share (10_state.md R34; 60_exceptions.md R359). -/
  buf : Memory
  /-- The views the host holds (43_span.md R331; log 13). -/
  views : List SpanView
  /-- The model's own: the moves to come, the next one first (log 5). -/
  sched : List Move
  /-- The model's own: the unit whose command `exec` runs (log 14). -/
  active : Nat
  /-- The model's own: what the host read last (log 15). -/
  seen : Option HostDatum
  deriving DecidableEq, Repr

/-- The reasons a run stops with a fault: faults of the host's program. No command raises one. -/
inductive Fault where
  /-- The host read a register that holds no value, or took a view where there is none
  (10_state.md R56; 93_implementation_defined.md U13). Raised by the moves readReg and takeView. Safe: the
  run stops where a device might go on. -/
  | absentRead
  /-- The host accessed a byte outside BUF (20_memory.md R81). Raised by the moves bufRead and bufWrite.
  Safe: the run stops where a device might go on. -/
  | noSuchAddress
  deriving DecidableEq, Repr

/-- The reasons a move is refused. None is a command's: every instruction has its meaning. -/
inductive Refusal where
  /-- The instruction of this mnemonic has no meaning yet. Raised by no arm of `exec`. Safe. -/
  | notModelled (mnemonic : String)
  /-- A move names a unit that does not exist (60_exceptions.md R359). Raised by every move of a unit, and
  by `exec` when the active unit does not exist. Safe: there is no such hardware. -/
  | noSuchUnit
  /-- A command is issued to a unit in FLUSH_WAIT (40_contract.md R142). Raised by the moves issue and
  begin. Safe: the spec refuses it. -/
  | issueInFlushWait
  /-- A command is issued to a unit that is still executing one (10_state.md R31; log 12). Raised by the
  moves issue and begin. Safe: the run stops. -/
  | unitBusy
  /-- A request register is written while the unit is in FLUSH_WAIT (10_state.md R33;
  93_implementation_defined.md U11). Raised by the move writeReg. Safe: the spec refuses it. -/
  | writeInFlushWait
  /-- A value is wider than the register it is written to, "a specification error, never a truncation"
  (00_scope.md R11). Raised by the move writeReg. Safe: the port cannot present it. -/
  | valueTooWide
  /-- A view access at or beyond the view's length (43_span.md R331). Raised by the moves viewRead and
  viewWrite. Safe: the spec refuses it. -/
  | viewIndex
  /-- The host holds no view of this number (log 13). Raised by the moves viewRead and viewWrite. Safe. -/
  | noSuchView
  deriving DecidableEq, Repr

/-- The machine right after reset, for given parameters: every unit at its reset values
(70_reset_and_hazards.md R370; 60_exceptions.md R359), no byte of BUF written (R371), and nothing
scheduled. -/
def State.resetWith (p : Params) : State where
  params := p
  units := List.replicate p.nUnits CodecUnit.reset
  buf := []
  views := []
  sched := []
  active := 0
  seen := none

/-- The machine right after reset. -/
def State.reset : State := State.resetWith Config.params

end Sys2Proof.Machine
end

