-- ==== Sys2Proof/Machine/Operands.lean ====
section
/-! DEFINITION. How a command reads its operands (spec/30_encoding.md R102, R109; 10_state.md R38 to R41),
the byte-order primitives (00_scope.md R13), and how the host reads and writes the port registers
(10_state.md R33, R56). -/

namespace Sys2Proof

/-! ### Token lengths (30_encoding.md R102) -/

/-- The bytes of an integer width. -/
def IntWidth.bytes : IntWidth → Nat
  | .w1 => 1
  | .w2 => 2
  | .w3 => 3
  | .w4 => 4
  | .w8 => 8

/-- The bytes of a float format. -/
def FloatFormat.bytes : FloatFormat → Nat
  | .f16 => 2
  | .f32 => 4
  | .f64 => 8
  | .f80 => 10

/-- `tokenLen` (R102): LEN for the span and ignore tokens, the width for the rest. The same for the GET,
PUT, PUTF and LENGTH of a token (40_contract.md R136). -/
def Token.length (tok : Token) (len : Nat) : Nat :=
  match tok with
  | .int _ w _ => w.bytes
  | .float f _ => f.bytes
  | .span => len
  | .spanCopy => len
  | .ignore => len

/-- Whether a `get` of the token reads its window (20_memory.md R76): SPAN and IGNORE do not. -/
def Token.readsWindow : Token → Bool
  | .int _ _ _ => true
  | .float _ _ => true
  | .span => false
  | .spanCopy => true
  | .ignore => false

/-! ### Byte order (00_scope.md R13) -/

/-- `assemble_LE`: element i of the list weighs 256^i. -/
def assembleLE : List Byte → Nat
  | [] => 0
  | b :: bs => b.toNat + 256 * assembleLE bs

/-- `assemble_BE`: the first element is the most significant. -/
def assembleBE (bs : List Byte) : Nat := assembleLE bs.reverse

/-- `split_LE(w, n)`: the n low bytes of w, least significant first. -/
def splitLE (w : Nat) : Nat → List Byte
  | 0 => []
  | n + 1 => BitVec.ofNat 8 (w % 256) :: splitLE (w / 256) n

/-- `split_BE(w, n)`: `split_LE(w, n)` reversed. -/
def splitBE (w n : Nat) : List Byte := (splitLE w n).reverse

/-- `assemble_X`. -/
def assemble : ByteOrder → List Byte → Nat
  | .le, bs => assembleLE bs
  | .be, bs => assembleBE bs

/-- `split_X`. -/
def split : ByteOrder → Nat → Nat → List Byte
  | .le, w, n => splitLE w n
  | .be, w, n => splitBE w n

namespace Machine

/-! ### The encode operand (10_state.md R40) -/

/-- What an integer encode reads: `sint_66(VALUE)`. -/
def integerOperand (v : ValueWord) : Int := v.toInt

/-- What a float encode reads: `VALUE[63:0]`, a binary64 bit pattern; `VALUE[65:64]` is ignored. -/
def doubleOperand (v : ValueWord) : Word64 := v.extractLsb' 0 64

/-! ### The host's register accesses (10_state.md R33) -/

/-- Whether an unsigned value fits a register of OFFSET_BITS bits (00_scope.md R11). -/
def fitsRegister (p : Params) (v : Nat) : Bool := v < 2 ^ p.offsetBits

/-- Whether the value of a register write fits the register. -/
def RegWrite.fits (p : Params) : RegWrite → Bool
  | .cmd _ => true
  | .offset v => fitsRegister p v
  | .len v => fitsRegister p v
  | .value _ => true
  | .bufSize v => fitsRegister p v
  | .flushCb _ => true
  | .flushAck _ => true

/-- Whether the host may write the register in FLUSH_WAIT: FLUSH_ACK in any state, the request registers
only in IDLE (R33). -/
def RegWrite.anyState : RegWrite → Bool
  | .cmd _ => false
  | .offset _ => false
  | .len _ => false
  | .value _ => false
  | .bufSize _ => false
  | .flushCb _ => false
  | .flushAck _ => true

/-- The unit after the host's register write. -/
def CodecUnit.write (c : CodecUnit) : RegWrite → CodecUnit
  | .cmd v => { c with cmd := v }
  | .offset v => { c with offset := v }
  | .len v => { c with len := v }
  | .value v => { c with value := v }
  | .bufSize v => { c with bufSize := v }
  | .flushCb v => { c with flushCb := v }
  | .flushAck v => { c with flushAck := v }

end Machine

end Sys2Proof
end

