-- ==== Sys2Proof/Machine/Flags.lean ====
section
/-! DEFINITION. The numeric codes of STATUS and RTAG, the only flags TTC has (spec/10_state.md R42, R43, R54;
60_exceptions.md R340), the bounds check (40_contract.md R133), and what the host reads from a register. -/

namespace Sys2Proof.Machine

/-- The STATUS codes (60_exceptions.md R340). -/
def Status.code : Status → BitVec 4
  | .ok => 0
  | .illegalCommand => 1
  | .outOfRange => 2
  | .outOfBounds => 3
  | .noFlushCallback => 4
  | .flushNoRoom => 5
  | .invalidEncodingByte => 6
  | .malformedSequence => 7

/-- The RTAG codes (10_state.md R43). -/
def RTag.code : RTag → BitVec 3
  | .noValue => 0
  | .uint => 1
  | .sint => 2
  | .float => 3
  | .view => 4
  | .bytes => 5
  | .length => 6

/-- The UNIT_STATE codes (10_state.md R49). -/
def UnitState.code : UnitState → BitVec 1
  | .idle => 0
  | .flushWait => 1

/-- `fits(o, n)` for a buffer of `size` bytes: `o + n <= S` on unbounded integers, so an offset near the
top of its register does not wrap (40_contract.md R133, R134). -/
def fits (o n size : Nat) : Bool := o + n ≤ size

/-- The integer a host reads from RESULT (41_integer.md R162): `uint(RESULT)` after RTAG = UINT,
`sint_64(RESULT)` after RTAG = SINT. -/
def hostInteger (tag : RTag) (result : Word64) : Option Int :=
  match tag with
  | .uint => some result.toNat
  | .sint => some result.toInt
  | .noValue | .float | .view | .bytes | .length => none

/-- What a host's read of a register gives; none where the register holds no value (10_state.md R56). -/
def CodecUnit.read (c : CodecUnit) : PortReg → Option HostDatum
  | .cmd => some (.unsigned c.cmd.toNat)
  | .offset => some (.unsigned c.offset)
  | .len => some (.unsigned c.len)
  | .value => some (.unsigned c.value.toNat)
  | .bufSize => some (.unsigned c.bufSize)
  | .flushCb => some (.unsigned c.flushCb.toNat)
  | .status => some (.unsigned c.status.code.toNat)
  | .rtag => c.rtag.map fun t => .unsigned t.code.toNat
  | .result => c.result.map fun v => .unsigned v.toNat
  | .rlen => c.rlen.map .unsigned
  | .next => c.next.map .unsigned
  | .delta => c.delta.map .signed
  | .unitState => some (.unsigned c.unitState.code.toNat)
  | .flushReq => some (.unsigned c.flushReq.toNat)
  | .flushOff => c.flushOff.map .unsigned
  | .flushAck => some (.unsigned c.flushAck.toNat)
  | .rdata => c.rdata.map .bytes

/-- The number of a register (10_state.md R33); RDATA has none (R46). -/
def PortReg.number : PortReg → Option (Fin 16)
  | .cmd => some 0
  | .offset => some 1
  | .len => some 2
  | .value => some 3
  | .bufSize => some 4
  | .flushCb => some 5
  | .status => some 6
  | .rtag => some 7
  | .result => some 8
  | .rlen => some 9
  | .next => some 10
  | .delta => some 11
  | .unitState => some 12
  | .flushReq => some 13
  | .flushOff => some 14
  | .flushAck => some 15
  | .rdata => none

end Sys2Proof.Machine
end

