-- ==== Sys2Proof/Machine/Ops.lean ====
section
/-! DEFINITION. The named operations over BUF and over the registers: MemRead and MemWrite (spec/00_scope.md
R12), the responses of a command (40_contract.md R132, R137: the latter is all that an error is, R353), and
the two steps of the flush handshake (40_contract.md R140). -/

namespace Sys2Proof.Machine

/-! ### BUF -/

/-- The canonical form: addresses strictly rising. No cell stands for an unwritten byte, so two memories
with the same written bytes are the same list. -/
abbrev Memory.wf (m : Memory) : Prop := m.Pairwise fun p q => p.1 < q.1

/-- The byte something has written at an address, if anything has. -/
def Memory.cell? : Memory → Nat → Option Byte
  | [], _ => none
  | (a, b) :: m, x => if x = a then some b else Memory.cell? m x

/-- The byte at an address: what was written, or the free value of a byte nothing has written (log 4). -/
def Memory.read (m : Memory) (x : Nat) : Byte :=
  match Memory.cell? m x with
  | some b => b
  | none => Config.unwrittenByte x

/-- The buffer with one byte written, in canonical form. -/
def Memory.write : Memory → Nat → Byte → Memory
  | [], x, v => [(x, v)]
  | (a, b) :: m, x, v =>
    if x < a then (x, v) :: (a, b) :: m
    else if x = a then (x, v) :: m
    else (a, b) :: Memory.write m x v

/-- `MemRead(a, n)` (00_scope.md R12): the n bytes from `a`, lowest address first. -/
def Memory.readBytes (m : Memory) (a n : Nat) : List Byte := (List.range n).map fun k => m.read (a + k)

/-- `MemWrite(a, n, bs)` (00_scope.md R12), n being the length of `bs`. -/
def Memory.writeBytes (m : Memory) (a : Nat) : List Byte → Memory
  | [] => m
  | b :: bs => Memory.writeBytes (m.write a b) (a + 1) bs

/-! ### Units -/

/-- The state with unit `u` replaced. -/
def State.setUnit (s : State) (u : Nat) (c : CodecUnit) : State := { s with units := s.units.set u c }

/-- The state with BUF replaced. -/
def State.setBuf (s : State) (m : Memory) : State := { s with buf := m }

/-! ### The responses of a command -/

/-- "mark RTAG, RESULT, RLEN, RDATA, NEXT, DELTA absent" (40_contract.md R131; 10_state.md R56). -/
def CodecUnit.markAbsent (c : CodecUnit) : CodecUnit :=
  { c with rtag := none, result := none, rlen := none, rdata := none, next := none, delta := none }

/-- `respond(fields)` (40_contract.md R132): STATUS <- OK, exactly the listed fields, every other one
absent; UNIT_STATE = IDLE and FLUSH_REQ = 0. -/
def CodecUnit.respond (c : CodecUnit) (r : Response) : CodecUnit :=
  { c with
    status := .ok, rtag := some r.rtag, result := r.result, rlen := r.rlen, rdata := r.rdata,
    next := r.next, delta := r.delta, unitState := .idle, flushReq := false }

/-- `raise E` (40_contract.md R137): STATUS <- E, RTAG = NONE, every other response field absent,
UNIT_STATE = IDLE, FLUSH_REQ = 0, FLUSH_ACK = 0. An error saves no state and transfers control nowhere
(60_exceptions.md R353); the request registers keep their values. -/
def CodecUnit.raise (c : CodecUnit) (e : Status) : CodecUnit :=
  { c with
    status := e, rtag := some .noValue, result := none, rlen := none, rdata := none,
    next := none, delta := none, unitState := .idle, flushReq := false, flushAck := false }

/-- The response of a successful encode whose n bytes went to `base`, OFFSET being `o` (10_state.md R47,
R48; 40_contract.md R138): NEXT is one past the window used, DELTA is NEXT - OFFSET. -/
def encodeResponse (base n o : Nat) : Response where
  rtag := .noValue
  next := some (base + n)
  delta := some ((base + n : Nat) - (o : Nat) : Int)

/-! ### The flush handshake (40_contract.md R140) -/

/-- Step 1: CTX is latched, FLUSH_OFF is the original OFFSET, FLUSH_REQ rises, the unit waits. The response
fields stay marked absent (R131; log 8). -/
def CodecUnit.requestFlush (c : CodecUnit) (k : FlushContext) : CodecUnit :=
  { c.markAbsent with ctx := some k, flushOff := some k.offset, flushReq := true, unitState := .flushWait }

/-- The first line of step 2: FLUSH_REQ, FLUSH_ACK and UNIT_STATE; CTX and FLUSH_OFF have no value in IDLE
(10_state.md R50, R51). -/
def CodecUnit.leaveFlush (c : CodecUnit) : CodecUnit :=
  { c with flushReq := false, flushAck := false, unitState := .idle, ctx := none, flushOff := none }

/-- Whether step 2 is enabled: UNIT_STATE = FLUSH_WAIT and FLUSH_ACK = 1 (R140). -/
def CodecUnit.resumable (c : CodecUnit) : Bool := c.unitState == .flushWait && c.flushAck

end Sys2Proof.Machine
end

