-- ==== Sys2Proof/Machine/IntCodec.lean ====
section
/-! DEFINITION. The integer codecs as functions on integers and byte lists (spec/41_integer.md R160 to R163). -/

namespace Sys2Proof.Machine

/-- The least value of a token's domain (R160). -/
def intLo (sg : Signedness) (w : IntWidth) : Int :=
  match sg with
  | .unsigned => 0
  | .signed => -(2 : Int) ^ (8 * w.bytes - 1)

/-- The greatest value of a token's domain (R160). -/
def intHi (sg : Signedness) (w : IntWidth) : Int :=
  match sg with
  | .unsigned => 2 ^ (8 * w.bytes) - 1
  | .signed => 2 ^ (8 * w.bytes - 1) - 1

/-- `IntDecode(b, X, signed)` (R161): total over all byte patterns (R168). -/
def intDecode (sg : Signedness) (order : ByteOrder) (bs : List Byte) : Int :=
  match sg with
  | .unsigned => assemble order bs
  | .signed =>
    if assemble order bs ≥ 2 ^ (8 * bs.length - 1) then (assemble order bs : Int) - 2 ^ (8 * bs.length)
    else assemble order bs

/-- RTAG of a decoded integer (R162). -/
def intTag : Signedness → RTag
  | .unsigned => .uint
  | .signed => .sint

/-- RESULT of a decoded integer (R162): the value modulo 2^64, which is `zext_64` of an unsigned and
`sext_64` of a signed value. -/
def intResult (v : Int) : Word64 := BitVec.ofInt 64 v

/-- `EncodeBytes_int` (R163): OUT_OF_RANGE outside the token's domain, else the bytes of the value modulo
2^(8n). It reads VALUE alone. -/
def intEncode (sg : Signedness) (w : IntWidth) (order : ByteOrder) (v : Int) : Except Status (List Byte) :=
  if v < intLo sg w ∨ intHi sg w < v then .error .outOfRange
  else .ok (split order (v % 2 ^ (8 * w.bytes)).toNat w.bytes)

end Sys2Proof.Machine
end

