-- ==== Sys2Proof/Machine/FloatCodec.lean ====
section
/-! DEFINITION. The float codecs as functions on bit patterns (spec/42_float.md R250 to R264). Every value is
held exactly, as a sign, an integer significand and a power of two; rounding happens in `roundFmt` alone. -/

namespace Sys2Proof.Machine

/-- The fields of a binary format (R251): `expBits` and `fracBits` are the widths of e and f. -/
structure BinaryFormat where
  expBits : Nat
  fracBits : Nat
  bias : Nat
  deriving DecidableEq, Repr

/-- The Float16 row of R251. -/
def binary16 : BinaryFormat := { expBits := 5, fracBits := 10, bias := 15 }

/-- The Float32 row of R251. -/
def binary32 : BinaryFormat := { expBits := 8, fracBits := 23, bias := 127 }

/-- The Float64 row of R251. -/
def binary64 : BinaryFormat := { expBits := 11, fracBits := 52, bias := 1023 }

/-- P, the precision in bits with the leading bit (R251). -/
def BinaryFormat.precision (F : BinaryFormat) : Nat := F.fracBits + 1

/-- EMIN = 1 - bias (R251). -/
def BinaryFormat.emin (F : BinaryFormat) : Int := 1 - (F.bias : Int)

/-- EMAX = bias (R251). -/
def BinaryFormat.emax (F : BinaryFormat) : Int := F.bias

/-- The exponent field of all ones. -/
def BinaryFormat.maxExp (F : BinaryFormat) : Nat := 2 ^ F.expBits - 1

/-- The class of a decoded pattern (R250, R254): `fin neg m q` is (-1)^neg * m * 2^q, m not 0. -/
inductive FloatClass where
  | nan
  | inf (neg : Bool)
  | zero (neg : Bool)
  | fin (neg : Bool) (m : Nat) (q : Int)
  deriving DecidableEq, Repr

/-- A rounded result (R252): `fin neg e m` has the exponent e and the integer significand m, of value
(-1)^neg * m * 2^(e - (P-1)). -/
inductive Rounded where
  | zero (neg : Bool)
  | inf (neg : Bool)
  | fin (neg : Bool) (e : Int) (m : Nat)
  deriving DecidableEq, Repr

/-- The pattern with sign, exponent field and fraction field, sign most significant (R251). -/
def BinaryFormat.fields (F : BinaryFormat) (neg : Bool) (e f : Nat) : Nat :=
  neg.toNat * 2 ^ (F.expBits + F.fracBits) + e * 2 ^ F.fracBits + f

/-- `UnpackBin` (R254). -/
def unpackBin (F : BinaryFormat) (x : Nat) : FloatClass :=
  let neg := x.testBit (F.expBits + F.fracBits)
  let e : Nat := x / 2 ^ F.fracBits % 2 ^ F.expBits
  let f : Nat := x % 2 ^ F.fracBits
  if e = F.maxExp then (if f = 0 then .inf neg else .nan)
  else if e = 0 then
    (if f = 0 then .zero neg else .fin neg f (F.emin - F.fracBits))
  else .fin neg (2 ^ F.fracBits + f) ((e : Int) - F.bias - F.fracBits)

/-- `rne` of m * 2^k (R252): the nearest integer, and of two equally near the even one. -/
def rne (m : Nat) (k : Int) : Nat :=
  if 0 ≤ k then m * 2 ^ k.toNat
  else
    let d := 2 ^ (-k).toNat
    let q := m / d
    let r := m % d
    if 2 * r < d then q
    else if d < 2 * r then q + 1
    else if q % 2 = 0 then q
    else q + 1

/-- `RoundFmt` (R252) of (-1)^neg * m * 2^q, m not 0, where floor(log2 |r|) is log2 m + q. -/
def roundFmt (F : BinaryFormat) (neg : Bool) (m : Nat) (q : Int) : Rounded :=
  let e := max ((m.log2 : Int) + q) F.emin
  let m1 := rne m (q - (e - F.fracBits))
  let carry : Bool := m1 = 2 ^ F.precision
  let m2 := if carry then 2 ^ F.fracBits else m1
  let e2 := if carry then e + 1 else e
  if F.emax < e2 then .inf neg
  else if m2 = 0 then .zero neg
  else .fin neg e2 m2

/-- Packing a rounded result (R253). -/
def pack (F : BinaryFormat) : Rounded → Nat
  | .zero neg => F.fields neg 0 0
  | .inf neg => F.fields neg F.maxExp 0
  | .fin neg e m =>
    if 2 ^ F.fracBits ≤ m then F.fields neg (e + F.bias).toNat (m - 2 ^ F.fracBits)
    else F.fields neg 0 m

/-- The canonical NaN of a binary format (R255): sign 0, exponent all ones, the top fraction bit. -/
def canonicalNaN (F : BinaryFormat) : Nat := F.fields false F.maxExp (2 ^ (F.fracBits - 1))

/-- A class in a binary format: the canonical NaN, the signed infinity or zero, or the rounded value
(R256, R257, R263's RoundFmt-or-special). -/
def packClass (F : BinaryFormat) : FloatClass → Nat
  | .nan => canonicalNaN F
  | .inf neg => pack F (.inf neg)
  | .zero neg => pack F (.zero neg)
  | .fin neg m q => pack F (roundFmt F neg m q)

/-- The class of a binary64 pattern (R250). -/
def doubleClass (d : Word64) : FloatClass := unpackBin binary64 d.toNat

/-- `ToDouble` (R257). -/
def toDouble (c : FloatClass) : Word64 := BitVec.ofNat 64 (packClass binary64 c)

/-! ### The 10-byte float (R258 to R262) -/

/-- The pattern with sign, 15-bit exponent field and 64-bit M (R258). -/
def fields80 (neg : Bool) (e m : Nat) : Nat := neg.toNat * 2 ^ 79 + e * 2 ^ 64 + m

/-- Float80 decode under X87 (R259). -/
def dec80X87 (x : Nat) : FloatClass :=
  let neg := x.testBit 79
  let e : Nat := x / 2 ^ 64 % 2 ^ 15
  let m : Nat := x % 2 ^ 64
  if e = 0x7FFF then (if m = 0x8000000000000000 then .inf neg else .nan)
  else if m = 0 then .zero neg
  else .fin neg m ((if e = 0 then 1 else (e : Int)) - 16383 - 63)

/-- Float80 decode under IMPLICIT (R260). -/
def dec80Implicit (x : Nat) : FloatClass :=
  let neg := x.testBit 79
  let e : Nat := x / 2 ^ 64 % 2 ^ 15
  let m : Nat := x % 2 ^ 64
  if e = 0x7FFF then (if m = 0 then .inf neg else .nan)
  else if e = 0 then (if m = 0 then .zero neg else .fin neg m (1 - 16383 - 64))
  else .fin neg (2 ^ 64 + m) ((e : Int) - 16383 - 64)

/-- Float80 encode under X87 (R255, R261): of a double, E = log2 m + q and M = m * 2^(63 - log2 m). -/
def enc80X87 : FloatClass → Nat
  | .nan => fields80 false 0x7FFF 0xC000000000000000
  | .inf neg => fields80 neg 0x7FFF 0x8000000000000000
  | .zero neg => fields80 neg 0 0
  | .fin neg m q => fields80 neg ((m.log2 : Int) + q + 16383).toNat (m * 2 ^ (63 - m.log2))

/-- Float80 encode under IMPLICIT (R255, R262): M is the fraction after the hidden leading 1. -/
def enc80Implicit : FloatClass → Nat
  | .nan => fields80 false 0x7FFF 0x8000000000000000
  | .inf neg => fields80 neg 0x7FFF 0
  | .zero neg => fields80 neg 0 0
  | .fin neg m q => fields80 neg ((m.log2 : Int) + q + 16383).toNat (m * 2 ^ (64 - m.log2) - 2 ^ 64)

/-- Float80 decode under the layout parameter (R258). -/
def dec80 : Float80Layout → Nat → FloatClass
  | .x87, x => dec80X87 x
  | .implicit, x => dec80Implicit x

/-- Float80 encode under the layout parameter (R258). -/
def enc80 : Float80Layout → FloatClass → Nat
  | .x87, c => enc80X87 c
  | .implicit, c => enc80Implicit c

/-! ### Dispatch on the format (R263, R264) -/

/-- `Dec_n` (R264): the double a pattern of the format decodes to. Float64 copies its bits (R256). -/
def floatDecode (layout : Float80Layout) (f : FloatFormat) (x : Nat) : Word64 :=
  match f with
  | .f16 => toDouble (unpackBin binary16 x)
  | .f32 => toDouble (unpackBin binary32 x)
  | .f64 => BitVec.ofNat 64 x
  | .f80 => toDouble (dec80 layout x)

/-- The pattern X of R263 that a double encodes to. -/
def floatEncode (layout : Float80Layout) (f : FloatFormat) (d : Word64) : Nat :=
  match f with
  | .f16 => packClass binary16 (doubleClass d)
  | .f32 => packClass binary32 (doubleClass d)
  | .f64 => d.toNat
  | .f80 => enc80 layout (doubleClass d)

end Sys2Proof.Machine
end

