-- ==== Sys2Proof/Machine/Command.lean ====
section
/-! DEFINITION. The execution of one command (spec/40_contract.md R131): what it decides from its latched
registers before it touches BUF (a `Plan`), and the carrying out of that decision in one step (70 R380). The
instructions' meanings are these operations at their tokens. -/

namespace Sys2Proof.Machine

/-- What a command has decided once its checks are made (R131; 60_exceptions.md R342). -/
inductive Plan where
  /-- It raises an error. -/
  | fail (e : Status)
  /-- It responds without touching BUF. -/
  | now (r : Response)
  /-- It reads the n bytes of its window at `o`, then responds. -/
  | read (tok : Token) (o n : Nat)
  /-- It writes its bytes at `base`, then responds; `o` is OFFSET. -/
  | write (base o : Nat) (bs : List Byte)
  /-- It takes the flush handshake. -/
  | flush (k : FlushContext)
  deriving DecidableEq, Repr

/-- `EncodeBytes_tok(VALUE)` (R131; 41_integer.md R163; 42_float.md R263): the bytes of an encode, from
VALUE alone. Span and ignore tokens have no encode (30_encoding.md R104). -/
def encodeBytes (layout : Float80Layout) (tok : Token) (v : ValueWord) : Except Status (List Byte) :=
  match tok with
  | .int sg w order => intEncode sg w order (integerOperand v)
  | .float f order => .ok (split order (floatEncode layout f (doubleOperand v)) f.bytes)
  | .span => .error .illegalCommand
  | .spanCopy => .error .illegalCommand
  | .ignore => .error .illegalCommand

/-- The response of a `get` at `o` of length n whose window holds `bs` (R135; 41_integer.md R162;
42_float.md R264; 43_span.md R330, R332, R333). SPAN and IGNORE do not look at the window. -/
def getResponse (layout : Float80Layout) (tok : Token) (o n : Nat) (bs : List Byte) : Response :=
  match tok with
  | .int sg _ order =>
    { rtag := intTag sg, result := some (intResult (intDecode sg order bs)), next := some (o + n),
      delta := some n }
  | .float f order =>
    { rtag := .float, result := some (floatDecode layout f (assemble order bs)), next := some (o + n),
      delta := some n }
  | .span =>
    { rtag := .view, result := some (BitVec.ofNat 64 o), rlen := some n, next := some (o + n),
      delta := some n }
  | .spanCopy =>
    { rtag := .bytes, rlen := some n, rdata := some bs, next := some (o + n), delta := some n }
  | .ignore => { rtag := .noValue, next := some (o + n), delta := some n }

/-- A `get` (R131): LEN >= 1 for the tokens that use it (30_encoding.md R104), then the bounds check. -/
def getPlan (layout : Float80Layout) (tok : Token) (c : CodecUnit) : Plan :=
  if tok.usesLen && c.len == 0 then .fail .illegalCommand
  else if !fits c.offset (tok.length c.len) c.bufSize then .fail .outOfBounds
  else if tok.readsWindow then .read tok c.offset (tok.length c.len)
  else .now (getResponse layout tok c.offset (tok.length c.len) [])

/-- A `put` (R131): the value's range, then the bounds check, then the write. -/
def putPlan (layout : Float80Layout) (tok : Token) (c : CodecUnit) : Plan :=
  match encodeBytes layout tok c.value with
  | .error e => .fail e
  | .ok bs =>
    if fits c.offset (tok.length c.len) c.bufSize then .write c.offset c.offset bs
    else .fail .outOfBounds

/-- A `putf` (R131, R139 to R141): as `put` where the window fits; else NO_FLUSH_CALLBACK or the flush
handshake. -/
def putfPlan (layout : Float80Layout) (tok : Token) (c : CodecUnit) : Plan :=
  match encodeBytes layout tok c.value with
  | .error e => .fail e
  | .ok bs =>
    if fits c.offset (tok.length c.len) c.bufSize then .write c.offset c.offset bs
    else if c.flushCb then
      .flush { tok := tok, offset := c.offset, bytes := bs, bufSize := c.bufSize }
    else .fail .noFlushCallback

/-- A LENGTH command (R145): the token length in RLEN, or ILLEGAL_COMMAND where the token fields or LEN are
illegal. Neither OFFSET nor BUF_SIZE is read. -/
def lengthPlan (tok : Token) (c : CodecUnit) : Plan :=
  if !tok.wellFormed then .fail .illegalCommand
  else if tok.usesLen && c.len == 0 then .fail .illegalCommand
  else .now { rtag := .length, rlen := some (tok.length c.len) }

/-- What an instruction decides, by its operation (R131). -/
def planOf (layout : Float80Layout) (i : Instr) (c : CodecUnit) : Plan :=
  match i.op with
  | .get => getPlan layout i.token c
  | .put => putPlan layout i.token c
  | .putf => putfPlan layout i.token c
  | .length => lengthPlan i.token c

/-- The carrying out of a plan in one step, unit `u` being `c` (R131, R132, R137, R140). -/
def State.carryOut (s : State) (u : Nat) (c : CodecUnit) : Plan → State
  | .fail e => s.setUnit u (c.raise e)
  | .now r => s.setUnit u (c.respond r)
  | .read tok o n => s.setUnit u (c.respond (getResponse s.params.layout tok o n (s.buf.readBytes o n)))
  | .write base o bs =>
    (s.setBuf (s.buf.writeBytes base bs)).setUnit u (c.respond (encodeResponse base bs.length o))
  | .flush k => s.setUnit u (c.requestFlush k)

/-- The active unit runs a command in one step. -/
def State.perform (s : State) (p : CodecUnit → Plan) : Host.Outcome State Fault Refusal :=
  match s.units[s.active]? with
  | none => .refused .noSuchUnit
  | some c => .next (s.carryOut s.active c (p c))

/-- A `get` of a token. -/
def runGet (tok : Token) (s : State) : Host.Outcome State Fault Refusal :=
  s.perform (getPlan s.params.layout tok)

/-- A `put` of a token. -/
def runPut (tok : Token) (s : State) : Host.Outcome State Fault Refusal :=
  s.perform (putPlan s.params.layout tok)

/-- A `putf` of a token. -/
def runPutf (tok : Token) (s : State) : Host.Outcome State Fault Refusal :=
  s.perform (putfPlan s.params.layout tok)

/-- A LENGTH of a token. -/
def runLength (tok : Token) (s : State) : Host.Outcome State Fault Refusal :=
  s.perform (lengthPlan tok)

end Sys2Proof.Machine
end

