-- ==== Sys2Proof/Machine/Float.lean ====
section
/-! DEFINITION. The meanings of the float commands (spec/42_float.md R270 to R293), each the command of its token under 40_contract.md R131. -/

namespace Sys2Proof.Machine

/-- `Float16_LE.get` (R270). -/
def execFloat16LeGet (s : State) : Host.Outcome State Fault Refusal :=
  runGet (.float .f16 .le) s

/-- `Float16_LE.put` (R271). -/
def execFloat16LePut (s : State) : Host.Outcome State Fault Refusal :=
  runPut (.float .f16 .le) s

/-- `Float16_LE.putf` (R272). -/
def execFloat16LePutf (s : State) : Host.Outcome State Fault Refusal :=
  runPutf (.float .f16 .le) s

/-- `Float16_BE.get` (R273). -/
def execFloat16BeGet (s : State) : Host.Outcome State Fault Refusal :=
  runGet (.float .f16 .be) s

/-- `Float16_BE.put` (R274). -/
def execFloat16BePut (s : State) : Host.Outcome State Fault Refusal :=
  runPut (.float .f16 .be) s

/-- `Float16_BE.putf` (R275). -/
def execFloat16BePutf (s : State) : Host.Outcome State Fault Refusal :=
  runPutf (.float .f16 .be) s

/-- `Float32_LE.get` (R276). -/
def execFloat32LeGet (s : State) : Host.Outcome State Fault Refusal :=
  runGet (.float .f32 .le) s

/-- `Float32_LE.put` (R277). -/
def execFloat32LePut (s : State) : Host.Outcome State Fault Refusal :=
  runPut (.float .f32 .le) s

/-- `Float32_LE.putf` (R278). -/
def execFloat32LePutf (s : State) : Host.Outcome State Fault Refusal :=
  runPutf (.float .f32 .le) s

/-- `Float32_BE.get` (R279). -/
def execFloat32BeGet (s : State) : Host.Outcome State Fault Refusal :=
  runGet (.float .f32 .be) s

/-- `Float32_BE.put` (R280). -/
def execFloat32BePut (s : State) : Host.Outcome State Fault Refusal :=
  runPut (.float .f32 .be) s

/-- `Float32_BE.putf` (R281). -/
def execFloat32BePutf (s : State) : Host.Outcome State Fault Refusal :=
  runPutf (.float .f32 .be) s

/-- `Float64_LE.get` (R282). -/
def execFloat64LeGet (s : State) : Host.Outcome State Fault Refusal :=
  runGet (.float .f64 .le) s

/-- `Float64_LE.put` (R283). -/
def execFloat64LePut (s : State) : Host.Outcome State Fault Refusal :=
  runPut (.float .f64 .le) s

/-- `Float64_LE.putf` (R284). -/
def execFloat64LePutf (s : State) : Host.Outcome State Fault Refusal :=
  runPutf (.float .f64 .le) s

/-- `Float64_BE.get` (R285). -/
def execFloat64BeGet (s : State) : Host.Outcome State Fault Refusal :=
  runGet (.float .f64 .be) s

/-- `Float64_BE.put` (R286). -/
def execFloat64BePut (s : State) : Host.Outcome State Fault Refusal :=
  runPut (.float .f64 .be) s

/-- `Float64_BE.putf` (R287). -/
def execFloat64BePutf (s : State) : Host.Outcome State Fault Refusal :=
  runPutf (.float .f64 .be) s

/-- `Float80_LE.get` (R288). -/
def execFloat80LeGet (s : State) : Host.Outcome State Fault Refusal :=
  runGet (.float .f80 .le) s

/-- `Float80_LE.put` (R289). -/
def execFloat80LePut (s : State) : Host.Outcome State Fault Refusal :=
  runPut (.float .f80 .le) s

/-- `Float80_LE.putf` (R290). -/
def execFloat80LePutf (s : State) : Host.Outcome State Fault Refusal :=
  runPutf (.float .f80 .le) s

/-- `Float80_BE.get` (R291). -/
def execFloat80BeGet (s : State) : Host.Outcome State Fault Refusal :=
  runGet (.float .f80 .be) s

/-- `Float80_BE.put` (R292). -/
def execFloat80BePut (s : State) : Host.Outcome State Fault Refusal :=
  runPut (.float .f80 .be) s

/-- `Float80_BE.putf` (R293). -/
def execFloat80BePutf (s : State) : Host.Outcome State Fault Refusal :=
  runPutf (.float .f80 .be) s

end Sys2Proof.Machine
end

