-- ==== Sys2Proof/Machine/Integer.lean ====
section
/-! DEFINITION. The meanings of the integer commands (spec/41_integer.md R170 to R223), each the command of its token under R131. -/

namespace Sys2Proof.Machine

/-- `UINT8.get` (R170). -/
def execUint8Get (s : State) : Host.Outcome State Fault Refusal :=
  runGet (.int .unsigned .w1 .le) s

/-- `UINT8.put` (R171). -/
def execUint8Put (s : State) : Host.Outcome State Fault Refusal :=
  runPut (.int .unsigned .w1 .le) s

/-- `UINT8.putf` (R172). -/
def execUint8Putf (s : State) : Host.Outcome State Fault Refusal :=
  runPutf (.int .unsigned .w1 .le) s

/-- `UINT16_LE.get` (R173). -/
def execUint16LeGet (s : State) : Host.Outcome State Fault Refusal :=
  runGet (.int .unsigned .w2 .le) s

/-- `UINT16_LE.put` (R174). -/
def execUint16LePut (s : State) : Host.Outcome State Fault Refusal :=
  runPut (.int .unsigned .w2 .le) s

/-- `UINT16_LE.putf` (R175). -/
def execUint16LePutf (s : State) : Host.Outcome State Fault Refusal :=
  runPutf (.int .unsigned .w2 .le) s

/-- `UINT16_BE.get` (R176). -/
def execUint16BeGet (s : State) : Host.Outcome State Fault Refusal :=
  runGet (.int .unsigned .w2 .be) s

/-- `UINT16_BE.put` (R177). -/
def execUint16BePut (s : State) : Host.Outcome State Fault Refusal :=
  runPut (.int .unsigned .w2 .be) s

/-- `UINT16_BE.putf` (R178). -/
def execUint16BePutf (s : State) : Host.Outcome State Fault Refusal :=
  runPutf (.int .unsigned .w2 .be) s

/-- `UINT24_LE.get` (R179). -/
def execUint24LeGet (s : State) : Host.Outcome State Fault Refusal :=
  runGet (.int .unsigned .w3 .le) s

/-- `UINT24_LE.put` (R180). -/
def execUint24LePut (s : State) : Host.Outcome State Fault Refusal :=
  runPut (.int .unsigned .w3 .le) s

/-- `UINT24_LE.putf` (R181). -/
def execUint24LePutf (s : State) : Host.Outcome State Fault Refusal :=
  runPutf (.int .unsigned .w3 .le) s

/-- `UINT24_BE.get` (R182). -/
def execUint24BeGet (s : State) : Host.Outcome State Fault Refusal :=
  runGet (.int .unsigned .w3 .be) s

/-- `UINT24_BE.put` (R183). -/
def execUint24BePut (s : State) : Host.Outcome State Fault Refusal :=
  runPut (.int .unsigned .w3 .be) s

/-- `UINT24_BE.putf` (R184). -/
def execUint24BePutf (s : State) : Host.Outcome State Fault Refusal :=
  runPutf (.int .unsigned .w3 .be) s

/-- `UINT32_LE.get` (R185). -/
def execUint32LeGet (s : State) : Host.Outcome State Fault Refusal :=
  runGet (.int .unsigned .w4 .le) s

/-- `UINT32_LE.put` (R186). -/
def execUint32LePut (s : State) : Host.Outcome State Fault Refusal :=
  runPut (.int .unsigned .w4 .le) s

/-- `UINT32_LE.putf` (R187). -/
def execUint32LePutf (s : State) : Host.Outcome State Fault Refusal :=
  runPutf (.int .unsigned .w4 .le) s

/-- `UINT32_BE.get` (R188). -/
def execUint32BeGet (s : State) : Host.Outcome State Fault Refusal :=
  runGet (.int .unsigned .w4 .be) s

/-- `UINT32_BE.put` (R189). -/
def execUint32BePut (s : State) : Host.Outcome State Fault Refusal :=
  runPut (.int .unsigned .w4 .be) s

/-- `UINT32_BE.putf` (R190). -/
def execUint32BePutf (s : State) : Host.Outcome State Fault Refusal :=
  runPutf (.int .unsigned .w4 .be) s

/-- `UINT64_LE.get` (R191). -/
def execUint64LeGet (s : State) : Host.Outcome State Fault Refusal :=
  runGet (.int .unsigned .w8 .le) s

/-- `UINT64_LE.put` (R192). -/
def execUint64LePut (s : State) : Host.Outcome State Fault Refusal :=
  runPut (.int .unsigned .w8 .le) s

/-- `UINT64_LE.putf` (R193). -/
def execUint64LePutf (s : State) : Host.Outcome State Fault Refusal :=
  runPutf (.int .unsigned .w8 .le) s

/-- `UINT64_BE.get` (R194). -/
def execUint64BeGet (s : State) : Host.Outcome State Fault Refusal :=
  runGet (.int .unsigned .w8 .be) s

/-- `UINT64_BE.put` (R195). -/
def execUint64BePut (s : State) : Host.Outcome State Fault Refusal :=
  runPut (.int .unsigned .w8 .be) s

/-- `UINT64_BE.putf` (R196). -/
def execUint64BePutf (s : State) : Host.Outcome State Fault Refusal :=
  runPutf (.int .unsigned .w8 .be) s

/-- `INT8.get` (R197). -/
def execInt8Get (s : State) : Host.Outcome State Fault Refusal :=
  runGet (.int .signed .w1 .le) s

/-- `INT8.put` (R198). -/
def execInt8Put (s : State) : Host.Outcome State Fault Refusal :=
  runPut (.int .signed .w1 .le) s

/-- `INT8.putf` (R199). -/
def execInt8Putf (s : State) : Host.Outcome State Fault Refusal :=
  runPutf (.int .signed .w1 .le) s

/-- `INT16_LE.get` (R200). -/
def execInt16LeGet (s : State) : Host.Outcome State Fault Refusal :=
  runGet (.int .signed .w2 .le) s

/-- `INT16_LE.put` (R201). -/
def execInt16LePut (s : State) : Host.Outcome State Fault Refusal :=
  runPut (.int .signed .w2 .le) s

/-- `INT16_LE.putf` (R202). -/
def execInt16LePutf (s : State) : Host.Outcome State Fault Refusal :=
  runPutf (.int .signed .w2 .le) s

/-- `INT16_BE.get` (R203). -/
def execInt16BeGet (s : State) : Host.Outcome State Fault Refusal :=
  runGet (.int .signed .w2 .be) s

/-- `INT16_BE.put` (R204). -/
def execInt16BePut (s : State) : Host.Outcome State Fault Refusal :=
  runPut (.int .signed .w2 .be) s

/-- `INT16_BE.putf` (R205). -/
def execInt16BePutf (s : State) : Host.Outcome State Fault Refusal :=
  runPutf (.int .signed .w2 .be) s

/-- `INT24_LE.get` (R206). -/
def execInt24LeGet (s : State) : Host.Outcome State Fault Refusal :=
  runGet (.int .signed .w3 .le) s

/-- `INT24_LE.put` (R207). -/
def execInt24LePut (s : State) : Host.Outcome State Fault Refusal :=
  runPut (.int .signed .w3 .le) s

/-- `INT24_LE.putf` (R208). -/
def execInt24LePutf (s : State) : Host.Outcome State Fault Refusal :=
  runPutf (.int .signed .w3 .le) s

/-- `INT24_BE.get` (R209). -/
def execInt24BeGet (s : State) : Host.Outcome State Fault Refusal :=
  runGet (.int .signed .w3 .be) s

/-- `INT24_BE.put` (R210). -/
def execInt24BePut (s : State) : Host.Outcome State Fault Refusal :=
  runPut (.int .signed .w3 .be) s

/-- `INT24_BE.putf` (R211). -/
def execInt24BePutf (s : State) : Host.Outcome State Fault Refusal :=
  runPutf (.int .signed .w3 .be) s

/-- `INT32_LE.get` (R212). -/
def execInt32LeGet (s : State) : Host.Outcome State Fault Refusal :=
  runGet (.int .signed .w4 .le) s

/-- `INT32_LE.put` (R213). -/
def execInt32LePut (s : State) : Host.Outcome State Fault Refusal :=
  runPut (.int .signed .w4 .le) s

/-- `INT32_LE.putf` (R214). -/
def execInt32LePutf (s : State) : Host.Outcome State Fault Refusal :=
  runPutf (.int .signed .w4 .le) s

/-- `INT32_BE.get` (R215). -/
def execInt32BeGet (s : State) : Host.Outcome State Fault Refusal :=
  runGet (.int .signed .w4 .be) s

/-- `INT32_BE.put` (R216). -/
def execInt32BePut (s : State) : Host.Outcome State Fault Refusal :=
  runPut (.int .signed .w4 .be) s

/-- `INT32_BE.putf` (R217). -/
def execInt32BePutf (s : State) : Host.Outcome State Fault Refusal :=
  runPutf (.int .signed .w4 .be) s

/-- `INT64_LE.get` (R218). -/
def execInt64LeGet (s : State) : Host.Outcome State Fault Refusal :=
  runGet (.int .signed .w8 .le) s

/-- `INT64_LE.put` (R219). -/
def execInt64LePut (s : State) : Host.Outcome State Fault Refusal :=
  runPut (.int .signed .w8 .le) s

/-- `INT64_LE.putf` (R220). -/
def execInt64LePutf (s : State) : Host.Outcome State Fault Refusal :=
  runPutf (.int .signed .w8 .le) s

/-- `INT64_BE.get` (R221). -/
def execInt64BeGet (s : State) : Host.Outcome State Fault Refusal :=
  runGet (.int .signed .w8 .be) s

/-- `INT64_BE.put` (R222). -/
def execInt64BePut (s : State) : Host.Outcome State Fault Refusal :=
  runPut (.int .signed .w8 .be) s

/-- `INT64_BE.putf` (R223). -/
def execInt64BePutf (s : State) : Host.Outcome State Fault Refusal :=
  runPutf (.int .signed .w8 .be) s

end Sys2Proof.Machine
end

