-- ==== Sys2Proof/Machine/Length.lean ====
section
/-! DEFINITION. The meaning of the LENGTH command (spec/40_contract.md R145). -/

namespace Sys2Proof.Machine

/-- `<TOKEN>.len` (R145). -/
def execLen (tok : Token) (s : State) : Host.Outcome State Fault Refusal :=
  runLength tok s

end Sys2Proof.Machine
end

