-- ==== Sys2Proof/Machine/Span.lean ====
section
/-! DEFINITION. The meanings of the span, span-copy and ignore commands (spec/43_span.md R330, R332, R333). -/

namespace Sys2Proof.Machine

/-- `SPAN.get` (R330). -/
def execSpanGet (s : State) : Host.Outcome State Fault Refusal :=
  runGet .span s

/-- `SPANCOPY.get` (R332). -/
def execSpanCopyGet (s : State) : Host.Outcome State Fault Refusal :=
  runGet .spanCopy s

/-- `IGNORE.get` (R333). -/
def execIgnoreGet (s : State) : Host.Outcome State Fault Refusal :=
  runGet .ignore s

end Sys2Proof.Machine
end

