-- ==== Sys2Proof/Machine/Dispatch.lean ====
section
/-! DEFINITION. The dispatch of an instruction to its meaning: one arm for each row of spec/opcode_table.json. -/

namespace Sys2Proof.Machine

def exec (i : Instr) (s : State) : Host.Outcome State Fault Refusal :=
  match i with
  | .uint8Get => Sys2Proof.Machine.execUint8Get s
  | .uint8Put => Sys2Proof.Machine.execUint8Put s
  | .uint8Putf => Sys2Proof.Machine.execUint8Putf s
  | .uint16LeGet => Sys2Proof.Machine.execUint16LeGet s
  | .uint16LePut => Sys2Proof.Machine.execUint16LePut s
  | .uint16LePutf => Sys2Proof.Machine.execUint16LePutf s
  | .uint16BeGet => Sys2Proof.Machine.execUint16BeGet s
  | .uint16BePut => Sys2Proof.Machine.execUint16BePut s
  | .uint16BePutf => Sys2Proof.Machine.execUint16BePutf s
  | .uint24LeGet => Sys2Proof.Machine.execUint24LeGet s
  | .uint24LePut => Sys2Proof.Machine.execUint24LePut s
  | .uint24LePutf => Sys2Proof.Machine.execUint24LePutf s
  | .uint24BeGet => Sys2Proof.Machine.execUint24BeGet s
  | .uint24BePut => Sys2Proof.Machine.execUint24BePut s
  | .uint24BePutf => Sys2Proof.Machine.execUint24BePutf s
  | .uint32LeGet => Sys2Proof.Machine.execUint32LeGet s
  | .uint32LePut => Sys2Proof.Machine.execUint32LePut s
  | .uint32LePutf => Sys2Proof.Machine.execUint32LePutf s
  | .uint32BeGet => Sys2Proof.Machine.execUint32BeGet s
  | .uint32BePut => Sys2Proof.Machine.execUint32BePut s
  | .uint32BePutf => Sys2Proof.Machine.execUint32BePutf s
  | .uint64LeGet => Sys2Proof.Machine.execUint64LeGet s
  | .uint64LePut => Sys2Proof.Machine.execUint64LePut s
  | .uint64LePutf => Sys2Proof.Machine.execUint64LePutf s
  | .uint64BeGet => Sys2Proof.Machine.execUint64BeGet s
  | .uint64BePut => Sys2Proof.Machine.execUint64BePut s
  | .uint64BePutf => Sys2Proof.Machine.execUint64BePutf s
  | .int8Get => Sys2Proof.Machine.execInt8Get s
  | .int8Put => Sys2Proof.Machine.execInt8Put s
  | .int8Putf => Sys2Proof.Machine.execInt8Putf s
  | .int16LeGet => Sys2Proof.Machine.execInt16LeGet s
  | .int16LePut => Sys2Proof.Machine.execInt16LePut s
  | .int16LePutf => Sys2Proof.Machine.execInt16LePutf s
  | .int16BeGet => Sys2Proof.Machine.execInt16BeGet s
  | .int16BePut => Sys2Proof.Machine.execInt16BePut s
  | .int16BePutf => Sys2Proof.Machine.execInt16BePutf s
  | .int24LeGet => Sys2Proof.Machine.execInt24LeGet s
  | .int24LePut => Sys2Proof.Machine.execInt24LePut s
  | .int24LePutf => Sys2Proof.Machine.execInt24LePutf s
  | .int24BeGet => Sys2Proof.Machine.execInt24BeGet s
  | .int24BePut => Sys2Proof.Machine.execInt24BePut s
  | .int24BePutf => Sys2Proof.Machine.execInt24BePutf s
  | .int32LeGet => Sys2Proof.Machine.execInt32LeGet s
  | .int32LePut => Sys2Proof.Machine.execInt32LePut s
  | .int32LePutf => Sys2Proof.Machine.execInt32LePutf s
  | .int32BeGet => Sys2Proof.Machine.execInt32BeGet s
  | .int32BePut => Sys2Proof.Machine.execInt32BePut s
  | .int32BePutf => Sys2Proof.Machine.execInt32BePutf s
  | .int64LeGet => Sys2Proof.Machine.execInt64LeGet s
  | .int64LePut => Sys2Proof.Machine.execInt64LePut s
  | .int64LePutf => Sys2Proof.Machine.execInt64LePutf s
  | .int64BeGet => Sys2Proof.Machine.execInt64BeGet s
  | .int64BePut => Sys2Proof.Machine.execInt64BePut s
  | .int64BePutf => Sys2Proof.Machine.execInt64BePutf s
  | .float16LeGet => Sys2Proof.Machine.execFloat16LeGet s
  | .float16LePut => Sys2Proof.Machine.execFloat16LePut s
  | .float16LePutf => Sys2Proof.Machine.execFloat16LePutf s
  | .float16BeGet => Sys2Proof.Machine.execFloat16BeGet s
  | .float16BePut => Sys2Proof.Machine.execFloat16BePut s
  | .float16BePutf => Sys2Proof.Machine.execFloat16BePutf s
  | .float32LeGet => Sys2Proof.Machine.execFloat32LeGet s
  | .float32LePut => Sys2Proof.Machine.execFloat32LePut s
  | .float32LePutf => Sys2Proof.Machine.execFloat32LePutf s
  | .float32BeGet => Sys2Proof.Machine.execFloat32BeGet s
  | .float32BePut => Sys2Proof.Machine.execFloat32BePut s
  | .float32BePutf => Sys2Proof.Machine.execFloat32BePutf s
  | .float64LeGet => Sys2Proof.Machine.execFloat64LeGet s
  | .float64LePut => Sys2Proof.Machine.execFloat64LePut s
  | .float64LePutf => Sys2Proof.Machine.execFloat64LePutf s
  | .float64BeGet => Sys2Proof.Machine.execFloat64BeGet s
  | .float64BePut => Sys2Proof.Machine.execFloat64BePut s
  | .float64BePutf => Sys2Proof.Machine.execFloat64BePutf s
  | .float80LeGet => Sys2Proof.Machine.execFloat80LeGet s
  | .float80LePut => Sys2Proof.Machine.execFloat80LePut s
  | .float80LePutf => Sys2Proof.Machine.execFloat80LePutf s
  | .float80BeGet => Sys2Proof.Machine.execFloat80BeGet s
  | .float80BePut => Sys2Proof.Machine.execFloat80BePut s
  | .float80BePutf => Sys2Proof.Machine.execFloat80BePutf s
  | .spanGet => Sys2Proof.Machine.execSpanGet s
  | .spanCopyGet => Sys2Proof.Machine.execSpanCopyGet s
  | .ignoreGet => Sys2Proof.Machine.execIgnoreGet s
  | .len tok => Sys2Proof.Machine.execLen tok s

end Sys2Proof.Machine
end

