-- ==== Sys2Proof/Machine/HostMoves.lean ====
section
/-! DEFINITION. What the host does between the steps of the units (spec/10_state.md R31): register writes and
reads, BUF accesses, view accesses, and the reset of a unit. -/

namespace Sys2Proof.Machine

/-- Unit `u` replaced by what a total operation makes of it; refused where there is no such unit. -/
def State.onUnit (s : State) (u : Nat) (f : CodecUnit → State) : Host.Outcome State Fault Refusal :=
  match s.units[u]? with
  | none => .refused .noSuchUnit
  | some c => .next (f c)

/-- A host write of a register (R33): a request register only in IDLE, FLUSH_ACK in any state; a value
that does not fit its register cannot be presented (00_scope.md R11). -/
def hostWriteReg (u : Nat) (w : RegWrite) (s : State) : Host.Outcome State Fault Refusal :=
  match s.units[u]? with
  | none => .refused .noSuchUnit
  | some c =>
    if !w.fits s.params then .refused .valueTooWide
    else if c.unitState == .flushWait && !w.anyState then .refused .writeInFlushWait
    else .next (s.setUnit u (c.write w))

/-- A host read of a register (R56): a fault of the host's program where it holds no value. -/
def hostReadReg (u : Nat) (r : PortReg) (s : State) : Host.Outcome State Fault Refusal :=
  match s.units[u]? with
  | none => .refused .noSuchUnit
  | some c =>
    match c.read r with
    | none => .fault .absentRead
    | some d => .next { s with seen := some d }

/-- Whether an address lies in BUF: below the BUF_SIZE of a unit (20_memory.md R81; log 9). -/
def State.inBuf (s : State) (a : Nat) : Bool := s.units.any fun c => a < c.bufSize

/-- A host read of a byte of BUF (20_memory.md R89). -/
def hostBufRead (a : Nat) (s : State) : Host.Outcome State Fault Refusal :=
  if s.inBuf a then .next { s with seen := some (.unsigned (s.buf.read a).toNat) }
  else .fault .noSuchAddress

/-- A host write of a byte of BUF (20_memory.md R89). -/
def hostBufWrite (a : Nat) (b : Byte) (s : State) : Host.Outcome State Fault Refusal :=
  if s.inBuf a then .next (s.setBuf (s.buf.write a b))
  else .fault .noSuchAddress

/-- The view a unit has returned, where its response is one (43_span.md R330). -/
def CodecUnit.view? (c : CodecUnit) : Option SpanView :=
  if c.rtag = some .view then
    match c.result, c.rlen with
    | some base, some len => some { base := base.toNat, len := len }
    | some _, none => none
    | none, _ => none
  else none

/-- The host takes the view of unit `u`: it is held from then on, with no lifetime limit (43_span.md R331;
log 13). -/
def hostTakeView (u : Nat) (s : State) : Host.Outcome State Fault Refusal :=
  match s.units[u]? with
  | none => .refused .noSuchUnit
  | some c =>
    match c.view? with
    | none => .fault .absentRead
    | some v => .next { s with views := s.views ++ [v] }

/-- `ViewRead(v, i)` (43_span.md R331): `BUF[base + i]` as it stands at the time of the read. -/
def hostViewRead (v i : Nat) (s : State) : Host.Outcome State Fault Refusal :=
  match s.views[v]? with
  | none => .refused .noSuchView
  | some w =>
    if i < w.len then .next { s with seen := some (.unsigned (s.buf.read (w.base + i)).toNat) }
    else .refused .viewIndex

/-- `ViewWrite(v, i, x)` (43_span.md R331): `BUF[base + i] <- x`. -/
def hostViewWrite (v i : Nat) (b : Byte) (s : State) : Host.Outcome State Fault Refusal :=
  match s.views[v]? with
  | none => .refused .noSuchView
  | some w =>
    if i < w.len then .next (s.setBuf (s.buf.write (w.base + i) b))
    else .refused .viewIndex

/-- The reset of a unit (70_reset_and_hazards.md R370 to R372): its registers take their reset values, a
pending command is abandoned, and BUF and the host's views stay. -/
def resetUnit (u : Nat) (s : State) : Host.Outcome State Fault Refusal :=
  s.onUnit u fun _ => s.setUnit u CodecUnit.reset

end Sys2Proof.Machine
end

