-- ==== Sys2Proof/Machine/Issue.lean ====
section
/-! DEFINITION. The steps of the units: the issue of a command (spec/40_contract.md R130, R131), step 2 of the
flush handshake (R140), and, for several units, the same as single-byte accesses in any order
(20_memory.md R79). -/

namespace Sys2Proof.Machine

/-! ### One step (70_reset_and_hazards.md R380) -/

/-- Unit `u` about to run its command: it is the active unit, and the issue has cleared FLUSH_ACK (R130). -/
def State.latch (s : State) (u : Nat) (c : CodecUnit) : State :=
  { s with units := s.units.set u { c with flushAck := false }, active := u }

/-- Why a command cannot be issued to a unit, if it cannot: it waits in a flush (R142), or it is still
executing a command (10_state.md R31; log 12). -/
def CodecUnit.notIssuable (c : CodecUnit) : Option Refusal :=
  if c.unitState = .flushWait then some .issueInFlushWait
  else if c.flight.isSome then some .unitBusy
  else none

/-- The issue of the command unit `u` holds (R130, R131): an illegal word ends with ILLEGAL_COMMAND and
changes nothing else (30_encoding.md R107; 60_exceptions.md R341). -/
def issue (u : Nat) (s : State) : Host.Outcome State Fault Refusal :=
  match s.units[u]? with
  | none => .refused .noSuchUnit
  | some c =>
    match c.notIssuable with
    | some why => .refused why
    | none =>
      match decode c.cmd with
      | .error _ => (s.latch u c).perform fun _ => .fail .illegalCommand
      | .ok i => exec i (s.latch u c)

/-- The bytes a waiting `putf` writes, and its response, once FLUSH_ACK is seen (R140). -/
def flushPlan (k : FlushContext) : Plan :=
  if fits 0 k.bytes.length k.bufSize then .write 0 k.offset k.bytes
  else .fail .flushNoRoom

/-- Step 2 of the flush handshake (R140). A unit for which it is not enabled has no step and stays as it is
(R143; log 7). -/
def resume (u : Nat) (s : State) : Host.Outcome State Fault Refusal :=
  s.onUnit u fun c =>
    match c.ctx with
    | none => s
    | some k => if c.resumable then s.carryOut u c.leaveFlush (flushPlan k) else s

/-! ### Split into byte accesses (20_memory.md R79) -/

/-- The beginning of a plan that is carried out split: an error, a flush request or a response without
accesses comes at once or is ready; the window's accesses are still to be made. -/
def State.takeOff (s : State) (u : Nat) (c : CodecUnit) : Plan → State
  | .fail e => s.setUnit u (c.raise e)
  | .flush k => s.setUnit u (c.requestFlush k)
  | .now r => s.setUnit u { c.markAbsent with flight := some (.respond r) }
  | .read tok o n => s.setUnit u { c.markAbsent with flight := some (.read tok o (List.replicate n none)) }
  | .write base o bs =>
    s.setUnit u { c.markAbsent with flight := some (.write base o bs (List.range bs.length)) }

/-- The issue of a command whose byte accesses are separate moves. With one unit a command is indivisible
(R79; 70_reset_and_hazards.md R380), so this is `issue`. -/
def beginSplit (u : Nat) (s : State) : Host.Outcome State Fault Refusal :=
  if s.params.nUnits ≤ 1 then issue u s
  else
    match s.units[u]? with
    | none => .refused .noSuchUnit
    | some c =>
      match c.notIssuable with
      | some why => .refused why
      | none =>
        match decode c.cmd with
        | .error _ => .next ((s.latch u c).takeOff u { c with flushAck := false } (.fail .illegalCommand))
        | .ok i =>
          .next ((s.latch u c).takeOff u { c with flushAck := false }
            (planOf s.params.layout i { c with flushAck := false }))

/-- Unit `u` accesses byte `k` of its window, once. An access that is not outstanding is no step of the unit
(log 7). -/
def accessByte (u k : Nat) (s : State) : Host.Outcome State Fault Refusal :=
  s.onUnit u fun c =>
    match c.flight with
    | none => s
    | some (.respond _) => s
    | some (.read tok o got) =>
      if got[k]? = some none then
        s.setUnit u { c with flight := some (.read tok o (got.set k (some (s.buf.read (o + k))))) }
      else s
    | some (.write base o bs todo) =>
      match bs[k]? with
      | none => s
      | some b =>
        if k ∈ todo then
          (s.setBuf (s.buf.write (base + k) b)).setUnit u
            { c with flight := some (.write base o bs (todo.erase k)) }
        else s

/-- The response of a command in flight, once every access has been made. -/
def Flight.response? (layout : Float80Layout) : Flight → Option Response
  | .respond r => some r
  | .read tok o got =>
    if got.all Option.isSome then some (getResponse layout tok o got.length (got.filterMap id)) else none
  | .write base o bs todo => if todo.isEmpty then some (encodeResponse base bs.length o) else none

/-- Unit `u` writes its response: every access of a command is before it (20_memory.md R84). -/
def finishSplit (u : Nat) (s : State) : Host.Outcome State Fault Refusal :=
  s.onUnit u fun c =>
    match c.flight with
    | none => s
    | some f =>
      match f.response? s.params.layout with
      | none => s
      | some r => s.setUnit u ({ c with flight := none }.respond r)

/-- Step 2 of the flush handshake whose byte writes are separate moves; with one unit, `resume`. -/
def resumeSplit (u : Nat) (s : State) : Host.Outcome State Fault Refusal :=
  if s.params.nUnits ≤ 1 then resume u s
  else
    s.onUnit u fun c =>
      match c.ctx with
      | none => s
      | some k => if c.resumable then s.takeOff u c.leaveFlush (flushPlan k) else s

/-! ### Every move -/

/-- The step of one move. -/
def runMove (m : Move) (s : State) : Host.Outcome State Fault Refusal :=
  match m with
  | .writeReg u w => hostWriteReg u w s
  | .readReg u r => hostReadReg u r s
  | .issue u => issue u s
  | .begin u => beginSplit u s
  | .access u k => accessByte u k s
  | .finish u => finishSplit u s
  | .resume u => resume u s
  | .resumeSplit u => resumeSplit u s
  | .reset u => resetUnit u s
  | .bufRead a => hostBufRead a s
  | .bufWrite a b => hostBufWrite a b s
  | .takeView u => hostTakeView u s
  | .viewRead v i => hostViewRead v i s
  | .viewWrite v i b => hostViewWrite v i b s

/-- The step of the machine: the next move of the schedule. With no move left nobody moves, and the machine
stays as it is: between steps only the host moves (70_reset_and_hazards.md R380; 40_contract.md R143;
log 6). -/
def stepState (s : State) : Host.Outcome State Fault Refusal :=
  match s.sched with
  | [] => .next s
  | m :: rest => runMove m { s with sched := rest }

/-- The unit with a command word in CMD and able to take an issue: a pending command is abandoned. -/
def CodecUnit.withCommand (c : CodecUnit) (w : CommandWord) : CodecUnit :=
  match c.unitState with
  | .idle => { c with cmd := w, flight := none }
  | .flushWait => { c.leaveFlush with cmd := w, flight := none }

/-- The state whose next move is the issue of a command word on unit 0. -/
def State.withCommand (s : State) (w : CommandWord) : State :=
  match s.units[0]? with
  | none => { s with sched := .issue 0 :: s.sched }
  | some c => { s with units := s.units.set 0 (c.withCommand w), sched := .issue 0 :: s.sched }

end Sys2Proof.Machine
end

