-- ==== Sys2Proof/Machine/Step.lean ====
section
/-! DEFINITION. One step of TTC, and where a step takes its next command from (spec/10_state.md R37: the port,
not memory). -/

namespace Sys2Proof.Machine

/-- One step: the next move of the schedule. -/
def step (s : State) : Host.Outcome State Fault Refusal := stepState s

/-- The state whose very next step issues the command word of a table row: TTC fetches nothing, so the word
stands in CMD of unit 0 and the next move is the issue (10_state.md R37; 20_memory.md R73; log 5). -/
def State.withFetchWord (s : State) (nbits w : Nat) : State := s.withCommand (wordOfBits nbits w)

end Sys2Proof.Machine
end

