-- ==== Sys2Proof/Machine/Asm.lean ====
section
/-! DEFINITION. TTC-1 assembly (spec/30_encoding.md R113, R114): a line, its text, and the host's moves it
stands for. -/

namespace Sys2Proof

/-- The name of a token as TT spells it (00_scope.md R4), without an order for one byte. -/
def Token.name : Token → String
  | .int sg w order =>
    (match sg with | .unsigned => "UINT" | .signed => "INT")
      ++ (match w with | .w1 => "8" | .w2 => "16" | .w3 => "24" | .w4 => "32" | .w8 => "64")
      ++ (match w, order with
          | .w1, _ => ""
          | .w2, .le | .w3, .le | .w4, .le | .w8, .le => "_LE"
          | .w2, .be | .w3, .be | .w4, .be | .w8, .be => "_BE")
  | .float f order =>
    (match f with | .f16 => "Float16" | .f32 => "Float32" | .f64 => "Float64" | .f80 => "Float80")
      ++ (match order with | .le => "_LE" | .be => "_BE")
  | .span => "SPAN"
  | .spanCopy => "SPANCOPY"
  | .ignore => "IGNORE"

namespace Machine

/-- A value operand as it is written (R113). -/
inductive AsmValue where
  /-- An integer literal. -/
  | integer (z : Int)
  /-- A double bit pattern, prefixed `bits:`. -/
  | bits (d : Word64)
  /-- A decimal literal: (-1)^neg * m * 10^e. -/
  | decimal (neg : Bool) (m : Nat) (e : Int)
  deriving DecidableEq, Repr

/-- The double nearest (-1)^neg * m * 10^e, ties to even (42_float.md R252; log 16). For e < 0 the quotient
is taken to more bits than any double has, and its last bit says whether something is left over. -/
def decimalDouble (neg : Bool) (m : Nat) (e : Int) : Word64 :=
  if m = 0 then toDouble (.zero neg)
  else if 0 ≤ e then toDouble (.fin neg (m * 10 ^ e.toNat) 0)
  else
    let s := 4 * (-e).toNat + 1200
    let d := 10 ^ (-e).toNat
    let sticky := if m * 2 ^ s % d = 0 then 0 else 1
    toDouble (.fin neg (2 * (m * 2 ^ s / d) + sticky) (-(s : Int) - 1))

/-- What the line puts into VALUE (10_state.md R40). -/
def AsmValue.word : AsmValue → ValueWord
  | .integer z => BitVec.ofInt 66 z
  | .bits d => d.setWidth 66
  | .decimal neg m e => (decimalDouble neg m e).setWidth 66

/-- Whether a value operand suits the token (R113): an integer literal that VALUE holds for an integer token
(00_scope.md R11 lets nothing truncate), a decimal literal or a bit pattern for a float token. -/
def AsmValue.suits : Token → AsmValue → Bool
  | .int _ _ _, .integer z => -(2 : Int) ^ 65 ≤ z && z < 2 ^ 65
  | .int _ _ _, .bits _ => false
  | .int _ _ _, .decimal _ _ _ => false
  | .float _ _, .integer _ => false
  | .float _ _, .bits _ => true
  | .float _ _, .decimal _ _ _ => true
  | .span, _ => false
  | .spanCopy, _ => false
  | .ignore, _ => false

/-- A line of TTC-1 assembly (R113), or the `buf` directive (R114). -/
inductive AsmLine where
  /-- `<TOKEN>.get <offset>` -/
  | get (tok : Token) (offset : Nat)
  /-- `<TOKEN>.put <offset>, <value>` -/
  | put (tok : Token) (offset : Nat) (value : AsmValue)
  /-- `<TOKEN>.putf <offset>, <value>`, with `nocb` the line is `<TOKEN>.putf.nocb` -/
  | putf (tok : Token) (offset : Nat) (value : AsmValue) (nocb : Bool)
  /-- `<TOKEN>.len` -/
  | len (tok : Token)
  /-- `SPAN.get <offset>, <N>` and the like -/
  | getN (tok : Token) (offset n : Nat)
  /-- `SPAN.len <N>` and the like -/
  | lenN (tok : Token) (n : Nat)
  /-- `buf <offset>: <byte> <byte> ...`: a host write of those bytes -/
  | buf (offset : Nat) (bytes : List Byte)
  deriving DecidableEq, Repr

/-- Whether the token of a line is of the catalogue and takes the line's operands (R113). -/
def AsmLine.wellFormed : AsmLine → Bool
  | .get tok _ => tok.wellFormed && !tok.usesLen
  | .put tok _ v => tok.wellFormed && !tok.usesLen && v.suits tok
  | .putf tok _ v _ => tok.wellFormed && !tok.usesLen && v.suits tok
  | .len tok => tok.wellFormed && !tok.usesLen
  | .getN tok _ _ => tok.usesLen
  | .lenN tok _ => tok.usesLen
  | .buf _ _ => true

/-- What a line does on unit `u` (R113): CMD is set to the row's word and OFFSET, VALUE, LEN to the operands,
FLUSH_CB to 1 for `.putf` and to 0 for `.putf.nocb` (log 16); registers it does not name keep their values;
then the command is issued. A `buf` line writes its bytes (R114). -/
def AsmLine.moves (u : Nat) : AsmLine → List Move
  | .get tok o =>
    [.writeReg u (.cmd (encodeFields .get tok)), .writeReg u (.offset o), .issue u]
  | .put tok o v =>
    [.writeReg u (.cmd (encodeFields .put tok)), .writeReg u (.offset o), .writeReg u (.value v.word), .issue u]
  | .putf tok o v nocb =>
    [.writeReg u (.cmd (encodeFields .putf tok)), .writeReg u (.offset o), .writeReg u (.value v.word),
      .writeReg u (.flushCb (!nocb)), .issue u]
  | .len tok => [.writeReg u (.cmd (encodeFields .length tok)), .issue u]
  | .getN tok o n =>
    [.writeReg u (.cmd (encodeFields .get tok)), .writeReg u (.offset o), .writeReg u (.len n), .issue u]
  | .lenN tok n => [.writeReg u (.cmd (encodeFields .length tok)), .writeReg u (.len n), .issue u]
  | .buf o bs => (List.range bs.length).map fun k => .bufWrite (o + k) (bs.getD k 0)

/-- A number in hexadecimal digits. -/
def hexDigits (n : Nat) : String := String.ofList (Nat.toDigits 16 n)

/-- A value operand as text (R113; log 16). -/
def AsmValue.text : AsmValue → String
  | .integer z => toString z
  | .bits d => "bits:0x" ++ hexDigits d.toNat
  | .decimal neg m e => (if neg then "-" else "") ++ toString m ++ "e" ++ toString e

/-- The text of a line (R113, R114). -/
def AsmLine.text : AsmLine → String
  | .get tok o => tok.name ++ ".get " ++ toString o
  | .put tok o v => tok.name ++ ".put " ++ toString o ++ ", " ++ v.text
  | .putf tok o v nocb =>
    tok.name ++ (if nocb then ".putf.nocb " else ".putf ") ++ toString o ++ ", " ++ v.text
  | .len tok => tok.name ++ ".len"
  | .getN tok o n => tok.name ++ ".get " ++ toString o ++ ", " ++ toString n
  | .lenN tok n => tok.name ++ ".len " ++ toString n
  | .buf o bs => "buf " ++ toString o ++ ":" ++ String.join (bs.map fun b => " " ++ hexDigits b.toNat)

end Machine

end Sys2Proof
end

