-- ==== Sys2Proof/Safety.lean ====
section
/-! DEFINITION. The terms the claims are stated in: which states the machine keeps to (`State.Inv`), what a
command leaves alone (`Frame`), runs of moves, and the rational values of float classes. -/

namespace Sys2Proof.Machine

/-! ### Responses and registers in range -/

/-- Which fields come with which RTAG (spec/10_state.md R43 to R48), and that each fits its register (R33). -/
def Response.Wf (p : Params) (r : Response) : Prop :=
  (match r.rtag with
    | .noValue => r.result = none ∧ r.rlen = none ∧ r.rdata = none ∧ r.next.isSome = r.delta.isSome
    | .uint | .sint | .float =>
      r.result.isSome ∧ r.rlen = none ∧ r.rdata = none ∧ r.next.isSome ∧ r.delta.isSome
    | .view =>
      (∃ base len, r.result = some base ∧ r.rlen = some len ∧ r.next = some (base.toNat + len)) ∧
      r.rdata = none ∧ r.delta.isSome
    | .bytes =>
      r.result = none ∧ r.rlen.isSome ∧ r.rdata.map List.length = r.rlen ∧ r.next.isSome ∧ r.delta.isSome
    | .length =>
      r.result = none ∧ r.rlen.isSome ∧ r.rdata = none ∧ r.next = none ∧ r.delta = none) ∧
  (∀ n, r.rlen = some n → n < 2 ^ p.offsetBits) ∧
  (∀ n, r.next = some n → n < 2 ^ p.offsetBits) ∧
  (∀ z, r.delta = some z → -(2 : Int) ^ p.offsetBits ≤ z ∧ z < 2 ^ p.offsetBits)

/-- The response a unit shows, if RTAG is not absent. -/
def CodecUnit.response? (c : CodecUnit) : Option Response :=
  c.rtag.map fun t =>
    { rtag := t, result := c.result, rlen := c.rlen, rdata := c.rdata, next := c.next, delta := c.delta }

/-- Unit `d` shows STATUS `e` and exactly the response fields `r` (40_contract.md R132, R137). -/
def CodecUnit.Answers (d : CodecUnit) (e : Status) (r : Response) : Prop :=
  d.status = e ∧ d.rtag = some r.rtag ∧ d.result = r.result ∧ d.rlen = r.rlen ∧ d.rdata = r.rdata ∧
  d.next = r.next ∧ d.delta = r.delta ∧ d.unitState = .idle ∧ d.flushReq = false

/-- The response fields of an error: RTAG NONE, every other field absent (40_contract.md R137). -/
def noFields : Response := { rtag := .noValue }

/-- A flush context is that of a `putf` whose window did not fit (40_contract.md R140; 10_state.md R50). -/
def FlushContext.Wf (p : Params) (k : FlushContext) : Prop :=
  k.tok.usesLen = false ∧ k.bytes.length = k.tok.length 0 ∧ k.offset < 2 ^ p.offsetBits ∧
  k.bufSize < 2 ^ p.offsetBits ∧ k.bufSize < k.offset + k.bytes.length

/-- A command in flight keeps to a window inside the buffer. -/
def Flight.Wf (p : Params) : Flight → Prop
  | .respond r => r.Wf p
  | .read tok o got =>
    tok.readsWindow = true ∧ (tok.usesLen = false → got.length = tok.length 0) ∧
    o + got.length < 2 ^ p.offsetBits
  | .write base o bs todo =>
    base + bs.length < 2 ^ p.offsetBits ∧ o < 2 ^ p.offsetBits ∧ todo.Nodup ∧ ∀ k ∈ todo, k < bs.length

/-! ### The invariant -/

/-- What every unit keeps to. -/
structure CodecUnit.Wf (p : Params) (c : CodecUnit) : Prop where
  /-- The request registers fit their widths (10_state.md R33). -/
  offset_lt : c.offset < 2 ^ p.offsetBits
  len_lt : c.len < 2 ^ p.offsetBits
  bufSize_lt : c.bufSize < 2 ^ p.offsetBits
  /-- STATUS codes 6 and 7 are never written (60_exceptions.md R348). -/
  status_ne : c.status ≠ .invalidEncodingByte ∧ c.status ≠ .malformedSequence
  /-- FLUSH_REQ is 1 exactly in FLUSH_WAIT (10_state.md R51). -/
  flushReq_iff : c.flushReq = true ↔ c.unitState = .flushWait
  /-- CTX has a value exactly in FLUSH_WAIT (10_state.md R50). -/
  ctx_iff : c.ctx.isSome ↔ c.unitState = .flushWait
  /-- FLUSH_OFF holds the original OFFSET in FLUSH_WAIT and nothing in IDLE (10_state.md R51). -/
  flushOff_eq : c.flushOff = c.ctx.map FlushContext.offset
  ctx_wf : ∀ k, c.ctx = some k → k.Wf p
  flight_wf : ∀ f, c.flight = some f → f.Wf p
  /-- A command in flight is not one that waits (10_state.md R49). -/
  flight_idle : c.flight.isSome → c.unitState = .idle
  /-- With one unit a command is indivisible (20_memory.md R79). -/
  flight_several : c.flight.isSome → 1 < p.nUnits
  /-- RTAG is absent exactly while a command is pending (40_contract.md R131). -/
  rtag_iff : c.rtag = none ↔ (c.unitState = .flushWait ∨ c.flight.isSome)
  /-- While a command is pending every response field is absent (40_contract.md R131). -/
  pending_absent : c.rtag = none →
    c.result = none ∧ c.rlen = none ∧ c.rdata = none ∧ c.next = none ∧ c.delta = none
  response_wf : ∀ r, c.response? = some r → r.Wf p
  /-- An error shows RTAG NONE and nothing else (40_contract.md R137). -/
  error_absent : c.status ≠ .ok → ∀ r, c.response? = some r → r = noFields

/-- What every state keeps to: parameters R7 lets, as many units as N_UNITS (60_exceptions.md R359), BUF in
canonical form, every unit as above, and every view the host holds inside the address range. -/
structure State.Inv (s : State) : Prop where
  params_wf : s.params.wf
  units_length : s.units.length = s.params.nUnits
  buf_wf : Memory.wf s.buf
  units_wf : ∀ c ∈ s.units, c.Wf s.params
  views_wf : ∀ v ∈ s.views, v.base + v.len < 2 ^ s.params.offsetBits

/-! ### Frames -/

/-- A command on unit `u`, which was `c` and is now `d`, leaves alone: the parameters, the host's views and
schedule, every other unit, and of unit `u` the request registers, FLUSH_ACK, FLUSH_OFF, CTX and whatever is
in flight. (What it does to BUF is said beside it.) -/
structure Frame (u : Nat) (s t : State) (c d : CodecUnit) : Prop where
  params : t.params = s.params
  views : t.views = s.views
  sched : t.sched = s.sched
  active : t.active = s.active
  seen : t.seen = s.seen
  count : t.units.length = s.units.length
  others : ∀ v, v ≠ u → t.units[v]? = s.units[v]?
  cmd : d.cmd = c.cmd
  offset : d.offset = c.offset
  len : d.len = c.len
  value : d.value = c.value
  bufSize : d.bufSize = c.bufSize
  flushCb : d.flushCb = c.flushCb
  flushAck : d.flushAck = c.flushAck
  flushOff : d.flushOff = c.flushOff
  ctx : d.ctx = c.ctx
  flight : d.flight = c.flight

/-- Two units hold the same request registers (10_state.md R33, "latched by the unit"). -/
def CodecUnit.SameRequest (c d : CodecUnit) : Prop :=
  c.cmd = d.cmd ∧ c.offset = d.offset ∧ c.len = d.len ∧ c.value = d.value ∧ c.bufSize = d.bufSize ∧
  c.flushCb = d.flushCb

/-! ### What commands say of their windows -/

/-- The power of 256 that byte k of an n-byte window weighs in a byte order (00_scope.md R13). -/
def bytePlace : ByteOrder → Nat → Nat → Nat
  | .le, _, k => k
  | .be, n, k => n - 1 - k

/-- The integer that the n bytes of BUF at `o` spell in a byte order (00_scope.md R13). -/
def windowValue (order : ByteOrder) (m : Memory) (o n : Nat) : Nat :=
  ∑ k ∈ Finset.range n, (m.read (o + k)).toNat * 256 ^ bytePlace order n k

/-- Two states hold the same bytes in BUF. -/
def SameBuf (s t : State) : Prop := ∀ a, t.buf.read a = s.buf.read a

/-- Outside the n bytes at `o` the two states hold the same bytes in BUF. -/
def SameBufOutside (o n : Nat) (s t : State) : Prop :=
  ∀ a, (a < o ∨ o + n ≤ a) → t.buf.read a = s.buf.read a

/-- The instruction is an integer encode of a value outside its token's domain (60_exceptions.md R343). -/
def BadValue (i : Instr) (v : ValueWord) : Prop :=
  (i.op = .put ∨ i.op = .putf) ∧
  ∃ sg w order, i.token = .int sg w order ∧ (v.toInt < intLo sg w ∨ intHi sg w < v.toInt)

/-! ### Runs -/

/-- The moves of a list, one after the other, until one stops. -/
def runMoves : List Move → State → Host.Outcome State Fault Refusal
  | [], s => .next s
  | m :: ms, s =>
    match runMove m s with
    | .next t => runMoves ms t
    | .fault r => .fault r
    | .refused r => .refused r

/-- The unit a move belongs to; none for the host's accesses to BUF and to its views. -/
def Move.unit? : Move → Option Nat
  | .writeReg u _ => some u
  | .readReg u _ => some u
  | .issue u => some u
  | .begin u => some u
  | .access u _ => some u
  | .finish u => some u
  | .resume u => some u
  | .resumeSplit u => some u
  | .reset u => some u
  | .bufRead _ => none
  | .bufWrite _ _ => none
  | .takeView u => some u
  | .viewRead _ _ => none
  | .viewWrite _ _ _ => none

/-! ### What the host reads and writes -/

/-- A host read of register `r` of unit `u` gives `d` and changes nothing but what the host has seen
(10_state.md R56; log 15). -/
def HostReads (u : Nat) (r : PortReg) (d : HostDatum) (s : State) : Prop :=
  hostReadReg u r s = .next { s with seen := some d }

/-- The move is a host write of byte `b` at address `a`, in BUF itself or through a view the host holds
(20_memory.md R89; 43_span.md R331). -/
def HostWritesByte (s : State) (a : Nat) (b : Byte) (m : Move) : Prop :=
  (m = .bufWrite a b ∧ s.inBuf a = true) ∨
  ∃ v i w, m = .viewWrite v i b ∧ s.views[v]? = some w ∧ i < w.len ∧ w.base + i = a

/-- The moves are host writes of the bytes `hs` at `q` and on, one for each byte. -/
def HostWrites (s : State) (q : Nat) (hs : List Byte) (host : List Move) : Prop :=
  host.length = hs.length ∧
  ∀ (k : Nat) (b : Byte) (m : Move), hs[k]? = some b → host[k]? = some m → HostWritesByte s (q + k) b m

/-- The move is a host read of the byte at address `a`, in BUF itself or through a view the host holds. -/
def HostReadsByte (s : State) (a : Nat) (m : Move) : Prop :=
  (m = .bufRead a ∧ s.inBuf a = true) ∨
  ∃ v i w, m = .viewRead v i ∧ s.views[v]? = some w ∧ i < w.len ∧ w.base + i = a

/-! ### Assembled lines (30_encoding.md R113) -/

/-- The operation and the token of a command line; none for a `buf` line. -/
def AsmLine.command? : AsmLine → Option (Op × Token)
  | .get tok _ => some (.get, tok)
  | .put tok _ _ => some (.put, tok)
  | .putf tok _ _ _ => some (.putf, tok)
  | .len tok => some (.length, tok)
  | .getN tok _ _ => some (.get, tok)
  | .lenN tok _ => some (.length, tok)
  | .buf _ _ => none

/-- The registers a line's operands set; the others keep their values. -/
def AsmLine.operands (c : CodecUnit) : AsmLine → CodecUnit
  | .get _ o => { c with offset := o }
  | .put _ o v => { c with offset := o, value := v.word }
  | .putf _ o v nocb => { c with offset := o, value := v.word, flushCb := !nocb }
  | .len _ => c
  | .getN _ o n => { c with offset := o, len := n }
  | .lenN _ n => { c with len := n }
  | .buf _ _ => c

/-! ### Values of float classes -/

/-- The rational value of a finite class (spec/42_float.md R254, R259, R260); none for NaN and infinities. -/
def FloatClass.toRat : FloatClass → Option ℚ
  | .nan => none
  | .inf _ => none
  | .zero _ => some 0
  | .fin neg m q => some ((if neg then -1 else 1) * (m : ℚ) * (2 : ℚ) ^ q)

/-- The sign of a class; none for NaN. -/
def FloatClass.sign : FloatClass → Option Bool
  | .nan => none
  | .inf neg => some neg
  | .zero neg => some neg
  | .fin neg _ _ => some neg

/-- Two classes say the same: the same sign, and both the same rational value or both not finite. NaN has no
sign, so it is like NaN alone. -/
def FloatClass.Same (a b : FloatClass) : Prop := a.sign = b.sign ∧ a.toRat = b.toRat

end Sys2Proof.Machine
end

