-- ==== Sys2Proof/Certificates/Slice0/Obligations.lean ====
section
/-! DEFINITION. The statements for the provers. Each docstring names the rules of spec/ it rests on; where a
statement rests on a choice of the model it names the log entry. -/

open Sys2Proof Sys2Proof.Machine

/-! ### Encoding (spec/30_encoding.md) -/

/-- Decode and encode agree on every word and every instruction: a word decodes to `i` exactly when `i` is
well formed and the word is its encoding (R100 to R105, R108, R110). -/
def Obligations.DecodeIffEncode : Prop :=
  ∀ (w : CommandWord) (i : Instr), decode w = .ok i ↔ (i.wellFormed = true ∧ encode i = w)

/-- The illegal words and LEN values are exactly those R107 lists, and the issue of one, on a unit that can
take an issue, ends with ILLEGAL_COMMAND and no response field and changes nothing else but FLUSH_ACK, which
every issue clears (R130, R341). -/
def Obligations.IllegalCommands : Prop :=
  (∀ (w : CommandWord) (len : Nat), (∃ e, decodeCmd w len = .error e) ↔
    (fieldRsvd w ≠ 0 ∨ fieldClass w = 6 ∨ fieldClass w = 7 ∨
      ((fieldClass w = 0 ∨ fieldClass w = 1) ∧ 4 < (fieldWcode w).toNat) ∨
      (fieldClass w = 2 ∧
        (fieldWcode w = 0 ∨ fieldWcode w = 2 ∨ fieldWcode w = 6 ∨ fieldWcode w = 7)) ∨
      ((fieldClass w = 0 ∨ fieldClass w = 1) ∧ fieldWcode w = 0 ∧ fieldOrder w = 1) ∨
      ((fieldClass w = 3 ∨ fieldClass w = 4 ∨ fieldClass w = 5) ∧
        (fieldWcode w ≠ 0 ∨ fieldOrder w = 1 ∨ fieldOp w = 1 ∨ fieldOp w = 2 ∨ len = 0)))) ∧
  ∀ (s : State) (u : Nat) (c : CodecUnit) (e : DecodeError), s.units[u]? = some c →
    c.unitState = .idle → c.flight = none → decodeCmd c.cmd c.len = .error e →
    ∃ t d, issue u s = .next t ∧ t.units[u]? = some d ∧ d.Answers .illegalCommand noFields ∧
      Frame u { s with active := u } t { c with flushAck := false } d ∧ SameBuf s t

/-- The table has 82 rows, no word matches two of them, every legal word matches its instruction's row and no
other, and LEN is checked after the match, for span and ignore tokens alone (R108, R111). -/
def Obligations.OpcodeRowsPartition : Prop :=
  opcodeRows.length = 82 ∧
  opcodeRows.Pairwise (fun p q => ∀ w, ¬(p.admits w = true ∧ q.admits w = true)) ∧
  ∀ (w : CommandWord) (len : Nat),
    (∀ i, decode w = .ok i →
      (i.row ∈ opcodeRows ∧ i.row.admits w = true ∧ ∀ r ∈ opcodeRows, r.admits w = true → r = i.row) ∧
      ((i.token = .span ∨ i.token = .spanCopy ∨ i.token = .ignore) → len = 0 →
        decodeCmd w len = .error .zeroLength) ∧
      (¬((i.token = .span ∨ i.token = .spanCopy ∨ i.token = .ignore) ∧ len = 0) →
        decodeCmd w len = .ok i)) ∧
    ∀ e, decode w = .error e → decodeCmd w len = .error e

/-- Words written out from R110's table decode to the instructions they stand for: one of each family and
operation, and the illegal neighbours of some of them. -/
def Obligations.DecodeSampleWords : Prop :=
  decodeTableWord 32 0x00000000 = some .uint8Get ∧ decodeTableWord 32 0x00000142 = some .uint24BePutf ∧
  decodeTableWord 32 0x00000185 = some .int64BePut ∧ decodeTableWord 32 0x00000028 = some .float16LeGet ∧
  decodeTableWord 32 0x000001AA = some .float80BePutf ∧ decodeTableWord 32 0x0000000C = some .spanGet ∧
  decodeTableWord 32 0x00000010 = some .spanCopyGet ∧ decodeTableWord 32 0x00000014 = some .ignoreGet ∧
  decodeTableWord 32 0x000001AB = some (.len (.float .f80 .be)) ∧
  decodeTableWord 32 0x0000000F = some (.len .span) ∧
  decodeTableWord 32 0x00000100 = none ∧ decodeTableWord 32 0x0000000D = none ∧
  decodeTableWord 32 0x000000C0 = none ∧ decodeTableWord 32 0x00000008 = none ∧
  decodeTableWord 32 0x00000200 = none

/-- The token length of every legal word: LEN for classes SPAN, SPANCOPY and IGNORE, else what WCODE selects
(R102). -/
def Obligations.TokenLengths : Prop :=
  ∀ (w : CommandWord) (i : Instr) (len : Nat), decode w = .ok i →
    ((3 ≤ (fieldClass w).toNat ∧ (fieldClass w).toNat ≤ 5) → i.token.length len = len ∧ fieldWcode w = 0) ∧
    ((fieldClass w).toNat ≤ 2 →
      [1, 2, 3, 4, 8, 10][(fieldWcode w).toNat]? = some (i.token.length len)) ∧
    (fieldClass w).toNat ≤ 5

/-! ### The primitives (spec/00_scope.md) -/

/-- `assemble` is the weighted sum of the bytes and `split` lists the base-256 digits, in both byte orders,
and they are inverse (R13). -/
def Obligations.ByteOrderPrimitives : Prop :=
  (∀ bs : List Byte,
    assembleLE bs = ∑ i ∈ Finset.range bs.length, (bs.getD i 0).toNat * 256 ^ i ∧
    assembleBE bs = ∑ i ∈ Finset.range bs.length, (bs.getD i 0).toNat * 256 ^ (bs.length - 1 - i)) ∧
  ∀ (w n : Nat), w < 2 ^ (8 * n) →
    (splitLE w n).length = n ∧ (splitBE w n).length = n ∧
    (∀ i, i < n → ((splitLE w n).getD i 0).toNat = w / 256 ^ i % 256) ∧
    (∀ i, i < n → ((splitBE w n).getD i 0).toNat = w / 256 ^ (n - 1 - i) % 256) ∧
    assembleLE (splitLE w n) = w ∧ assembleBE (splitBE w n) = w ∧ splitBE w n = (splitLE w n).reverse

/-- `MemRead` lists the n bytes from `a`, lowest first; `MemWrite` stores its bytes there and changes no other
byte, and the buffer keeps its canonical form (R12). -/
def Obligations.MemoryPrimitives : Prop :=
  ∀ (m : Memory) (a n : Nat) (bs : List Byte),
    (m.readBytes a n).length = n ∧
    (∀ k, k < n → (m.readBytes a n)[k]? = some (m.read (a + k))) ∧
    (∀ k, k < bs.length → bs[k]? = some ((m.writeBytes a bs).read (a + k))) ∧
    (∀ x, (x < a ∨ a + bs.length ≤ x) → (m.writeBytes a bs).read x = m.read x) ∧
    (m.wf → (m.writeBytes a bs).wf)

/-! ### The integer codecs (spec/41_integer.md) -/

/-- The value domains of R160, written out, and that an encode succeeds exactly inside them. -/
def Obligations.IntegerRanges : Prop :=
  (intLo .unsigned .w1 = 0 ∧ intHi .unsigned .w1 = 255 ∧ intLo .signed .w1 = -128 ∧ intHi .signed .w1 = 127 ∧
   intLo .unsigned .w2 = 0 ∧ intHi .unsigned .w2 = 65535 ∧
   intLo .signed .w2 = -32768 ∧ intHi .signed .w2 = 32767 ∧
   intLo .unsigned .w3 = 0 ∧ intHi .unsigned .w3 = 16777215 ∧
   intLo .signed .w3 = -8388608 ∧ intHi .signed .w3 = 8388607 ∧
   intLo .unsigned .w4 = 0 ∧ intHi .unsigned .w4 = 4294967295 ∧
   intLo .signed .w4 = -2147483648 ∧ intHi .signed .w4 = 2147483647 ∧
   intLo .unsigned .w8 = 0 ∧ intHi .unsigned .w8 = 18446744073709551615 ∧
   intLo .signed .w8 = -9223372036854775808 ∧ intHi .signed .w8 = 9223372036854775807) ∧
  ∀ sg w order v, (∃ bs, intEncode sg w order v = .ok bs) ↔ (intLo sg w ≤ v ∧ v ≤ intHi sg w)

/-- The bytes of an integer encode: OUT_OF_RANGE outside the domain of `sint_66(VALUE)`, else the n base-256
digits of the value modulo 2^(8n), in the token's byte order (R163). -/
def Obligations.IntegerEncodeBytes : Prop :=
  ∀ (layout : Float80Layout) (sg : Signedness) (w : IntWidth) (order : ByteOrder) (v : ValueWord),
    ((v.toInt < intLo sg w ∨ intHi sg w < v.toInt) →
      encodeBytes layout (.int sg w order) v = .error .outOfRange) ∧
    (intLo sg w ≤ v.toInt → v.toInt ≤ intHi sg w →
      ∃ bs, encodeBytes layout (.int sg w order) v = .ok bs ∧ bs.length = w.bytes ∧
        ∀ k, k < w.bytes →
          bs[k]? = some (BitVec.ofInt 8 (v.toInt % 2 ^ (8 * w.bytes) / 256 ^ bytePlace order w.bytes k)))

/-- Byte order changes nothing but the order of the bytes: the BE encode writes the LE bytes reversed, and the
BE decode of a list is the LE decode of its reverse, for integer and float tokens (R165; 42_float.md R268). -/
def Obligations.ByteOrderSymmetry : Prop :=
  (∀ (layout : Float80Layout) (sg : Signedness) (w : IntWidth) (v : ValueWord) (bs : List Byte),
    encodeBytes layout (.int sg w .le) v = .ok bs →
    encodeBytes layout (.int sg w .be) v = .ok bs.reverse) ∧
  (∀ (sg : Signedness) (bs : List Byte), intDecode sg .be bs = intDecode sg .le bs.reverse) ∧
  (∀ (layout : Float80Layout) (f : FloatFormat) (v : ValueWord), ∃ bs,
    encodeBytes layout (.float f .le) v = .ok bs ∧ encodeBytes layout (.float f .be) v = .ok bs.reverse) ∧
  ∀ (layout : Float80Layout) (f : FloatFormat) (o : Nat) (bs : List Byte),
    getResponse layout (.float f .be) o bs.length bs =
      getResponse layout (.float f .le) o bs.length bs.reverse

/-- Signedness does not change the bytes: a value both tokens of a width hold is written as the same bytes, and
a pattern decodes to u unsigned and to u - 2^(8n) signed exactly when its most significant byte is 0x80 or
more (R167). -/
def Obligations.SignednessSameBytes : Prop :=
  (∀ (w : IntWidth) (order : ByteOrder) (v : Int), 0 ≤ v → v ≤ 2 ^ (8 * w.bytes - 1) - 1 →
    ∃ bs, intEncode .unsigned w order v = .ok bs ∧ intEncode .signed w order v = .ok bs) ∧
  ∀ (w : IntWidth) (order : ByteOrder) (bs : List Byte) (k : Nat) (top : Byte), bs.length = w.bytes →
    bytePlace order w.bytes k = w.bytes - 1 → bs[k]? = some top →
    (intDecode .signed order bs = intDecode .unsigned order bs - 2 ^ (8 * w.bytes) ↔ 0x80 ≤ top.toNat) ∧
    (intDecode .signed order bs = intDecode .unsigned order bs ↔ top.toNat < 0x80)

/-! ### The integer commands: results and frames -/

/-- `uint8Get`, `uint16LeGet`, `uint16BeGet`, `uint24LeGet`, `uint24BeGet`, `uint32LeGet`, `uint32BeGet`,
`uint64LeGet`, `uint64BeGet`: where the window fits the command completes, RTAG is UINT, RESULT the integer
its bytes spell, NEXT and DELTA as R135 says, and everything else stays (R131, R161, R162). -/
def Obligations.UnsignedGetResult : Prop :=
  ∀ (i : Instr) (s : State) (c : CodecUnit) (w : IntWidth) (order : ByteOrder),
    i.op = .get → i.token = .int .unsigned w order → s.units[s.active]? = some c →
    c.offset + w.bytes ≤ c.bufSize →
    ∃ t d, exec i s = .next t ∧ t.units[s.active]? = some d ∧ Frame s.active s t c d ∧ SameBuf s t ∧
      d.Answers .ok
        { rtag := .uint, result := some (BitVec.ofNat 64 (windowValue order s.buf c.offset w.bytes)),
          next := some (c.offset + w.bytes), delta := some w.bytes }

/-- `int8Get`, `int16LeGet`, `int16BeGet`, `int24LeGet`, `int24BeGet`, `int32LeGet`, `int32BeGet`,
`int64LeGet`, `int64BeGet`: the same with RTAG SINT and RESULT the two's complement reading of the bytes
(R131, R161, R162). -/
def Obligations.SignedGetResult : Prop :=
  ∀ (i : Instr) (s : State) (c : CodecUnit) (w : IntWidth) (order : ByteOrder),
    i.op = .get → i.token = .int .signed w order → s.units[s.active]? = some c →
    c.offset + w.bytes ≤ c.bufSize →
    ∃ t d, exec i s = .next t ∧ t.units[s.active]? = some d ∧ Frame s.active s t c d ∧ SameBuf s t ∧
      d.Answers .ok
        { rtag := .sint,
          result := some (BitVec.ofInt 64
            (if 2 ^ (8 * w.bytes - 1) ≤ windowValue order s.buf c.offset w.bytes then
              (windowValue order s.buf c.offset w.bytes : Int) - 2 ^ (8 * w.bytes)
            else windowValue order s.buf c.offset w.bytes)),
          next := some (c.offset + w.bytes), delta := some w.bytes }

/-- The host reads every decoded integer back exactly: `uint(RESULT)` after RTAG = UINT and `sint_64(RESULT)`
after RTAG = SINT give the integer the window's bytes spell, for every integer `get` that fits (R162). -/
def Obligations.IntegerHostReads : Prop :=
  ∀ (i : Instr) (s : State) (c : CodecUnit) (sg : Signedness) (w : IntWidth) (order : ByteOrder),
    i.op = .get → i.token = .int sg w order → s.units[s.active]? = some c →
    c.offset + w.bytes ≤ c.bufSize →
    ∃ t d r, exec i s = .next t ∧ t.units[s.active]? = some d ∧ d.result = some r ∧
      (sg = .unsigned → d.rtag = some .uint ∧ hostInteger .uint r = some (r.toNat : Int) ∧
        r.toNat = windowValue order s.buf c.offset w.bytes) ∧
      (sg = .signed → d.rtag = some .sint ∧ hostInteger .sint r = some r.toInt ∧
        r = (BitVec.ofNat (8 * w.bytes) (windowValue order s.buf c.offset w.bytes)).signExtend 64 ∧
        r.toInt = (BitVec.ofNat (8 * w.bytes) (windowValue order s.buf c.offset w.bytes)).toInt)

/-- Every integer `put` and `putf` (uint8Put, uint8Putf, …, int64BePut, int64BePutf: the 36 encodes of R171 to
R223) of a value in its domain whose window fits: the command completes, the window holds the value's bytes,
every other byte and register stays, NEXT and DELTA are as R131 says, and no flush is requested whatever
FLUSH_CB is (R139). -/
def Obligations.IntegerPutResult : Prop :=
  ∀ (i : Instr) (s : State) (c : CodecUnit) (sg : Signedness) (w : IntWidth) (order : ByteOrder),
    (i.op = .put ∨ i.op = .putf) → i.token = .int sg w order → s.units[s.active]? = some c →
    intLo sg w ≤ c.value.toInt → c.value.toInt ≤ intHi sg w → c.offset + w.bytes ≤ c.bufSize →
    ∃ t d, exec i s = .next t ∧ t.units[s.active]? = some d ∧ Frame s.active s t c d ∧
      d.Answers .ok
        { rtag := .noValue, next := some (c.offset + w.bytes), delta := some w.bytes } ∧
      (∀ k, k < w.bytes → t.buf.read (c.offset + k) =
        BitVec.ofInt 8 (c.value.toInt % 2 ^ (8 * w.bytes) / 256 ^ bytePlace order w.bytes k)) ∧
      SameBufOutside c.offset w.bytes s t

/-- A `put` of a value in range followed by a `get` of the same token at the same offset gives the value back,
and encoding what was decoded gives the bytes back (R166). -/
def Obligations.IntegerRoundTrip : Prop :=
  (∀ (i j : Instr) (s : State) (c : CodecUnit) (sg : Signedness) (w : IntWidth) (order : ByteOrder),
    i.op = .put → j.op = .get → i.token = .int sg w order → j.token = .int sg w order →
    s.units[s.active]? = some c → intLo sg w ≤ c.value.toInt → c.value.toInt ≤ intHi sg w →
    c.offset + w.bytes ≤ c.bufSize →
    ∃ t t' d tag r, exec i s = .next t ∧ exec j t = .next t' ∧ t'.units[s.active]? = some d ∧
      d.rtag = some tag ∧ d.result = some r ∧ hostInteger tag r = some c.value.toInt) ∧
  ∀ (sg : Signedness) (w : IntWidth) (order : ByteOrder),
    (∀ v bs, intEncode sg w order v = .ok bs → intDecode sg order bs = v) ∧
    ∀ bs : List Byte, bs.length = w.bytes → intEncode sg w order (intDecode sg order bs) = .ok bs

/-! ### The float codecs (spec/42_float.md) -/

/-- The three binary formats, unpacked by their value formulas and packed by R253: zero, infinity, NaN,
subnormal and normal patterns, for every sign, exponent field and fraction field (R253, R254). -/
def Obligations.BinaryLayouts : Prop :=
  ∀ F : BinaryFormat, (F = binary16 ∨ F = binary32 ∨ F = binary64) →
    (∀ (neg : Bool) (e f : Nat), e < 2 ^ F.expBits → f < 2 ^ F.fracBits →
      (e = F.maxExp → f = 0 → unpackBin F (F.fields neg e f) = .inf neg) ∧
      (e = F.maxExp → f ≠ 0 → unpackBin F (F.fields neg e f) = .nan) ∧
      (e = 0 → f = 0 → unpackBin F (F.fields neg e f) = .zero neg) ∧
      (e = 0 → f ≠ 0 → (unpackBin F (F.fields neg e f)).sign = some neg ∧
        (unpackBin F (F.fields neg e f)).toRat =
          some ((if neg then -1 else 1) * (f : ℚ) * 2 ^ (F.emin - (F.precision - 1 : Nat)))) ∧
      (e ≠ 0 → e ≠ F.maxExp → (unpackBin F (F.fields neg e f)).sign = some neg ∧
        (unpackBin F (F.fields neg e f)).toRat =
          some ((if neg then -1 else 1) * ((2 ^ (F.precision - 1) + f : Nat) : ℚ) *
            2 ^ ((e : Int) - F.bias - (F.precision - 1 : Nat))))) ∧
    ∀ neg : Bool,
      pack F (.zero neg) = F.fields neg 0 0 ∧ pack F (.inf neg) = F.fields neg F.maxExp 0 ∧
      (∀ (e : Int) (m : Nat), F.emin ≤ e → e ≤ F.emax → m < 2 ^ F.precision →
        2 ^ (F.precision - 1) ≤ m →
        pack F (.fin neg e m) = F.fields neg (e + F.bias).toNat (m - 2 ^ (F.precision - 1))) ∧
      ∀ (e : Int) (m : Nat), m < 2 ^ (F.precision - 1) → pack F (.fin neg e m) = F.fields neg 0 m

/-- Rounding is to nearest, ties to even: a finite non-zero value at or above the overflow threshold packs to
the infinity of its sign; below it the pattern is finite, has the value's sign, is at least as near to the
value as any finite pattern of the format, and where another value is equally near its last bit is 0 (R252,
R253, R256 (e); and the decode of Float16, Float32 and Float80 into binary64 by R257). -/
def Obligations.PackNearestEven : Prop :=
  ∀ F : BinaryFormat, (F = binary16 ∨ F = binary32 ∨ F = binary64) →
  ∀ (neg : Bool) (m : Nat) (q : Int), m ≠ 0 →
    ((2 : ℚ) ^ (F.emax + 1) - 2 ^ (F.emax - F.precision) ≤ (m : ℚ) * 2 ^ q →
      packClass F (.fin neg m q) = F.fields neg F.maxExp 0) ∧
    ((m : ℚ) * 2 ^ q < (2 : ℚ) ^ (F.emax + 1) - 2 ^ (F.emax - F.precision) →
      (unpackBin F (packClass F (.fin neg m q))).sign = some neg ∧
      ∃ v, (unpackBin F (packClass F (.fin neg m q))).toRat = some v ∧
        ∀ (y : Nat) (z : ℚ), (unpackBin F y).toRat = some z →
          |(if neg then -1 else 1) * ((m : ℚ) * 2 ^ q) - v| ≤
            |(if neg then -1 else 1) * ((m : ℚ) * 2 ^ q) - z| ∧
          (|(if neg then -1 else 1) * ((m : ℚ) * 2 ^ q) - v| =
              |(if neg then -1 else 1) * ((m : ℚ) * 2 ^ q) - z| → z ≠ v →
            packClass F (.fin neg m q) % 2 = 0))

/-- The thresholds of the Float16 and Float32 encodes, for every double that is finite and not zero: where
they give infinity, zero, the least subnormal, and twice it at the tie (R265). -/
def Obligations.EncodeThresholds : Prop :=
  (∀ (layout : Float80Layout) (d : Word64) (neg : Bool) (m : Nat) (q : Int), doubleClass d = .fin neg m q →
    (floatEncode layout .f16 d = binary16.fields neg 31 0 ↔ (65520 : ℚ) ≤ m * 2 ^ q) ∧
    (floatEncode layout .f16 d = binary16.fields neg 0 0 ↔ (m : ℚ) * 2 ^ q ≤ 2 ^ (-25 : Int)) ∧
    ((2 : ℚ) ^ (-25 : Int) < m * 2 ^ q → (m : ℚ) * 2 ^ q < 3 * 2 ^ (-25 : Int) →
      floatEncode layout .f16 d = binary16.fields neg 0 1) ∧
    ((m : ℚ) * 2 ^ q = 3 * 2 ^ (-25 : Int) → floatEncode layout .f16 d = binary16.fields neg 0 2) ∧
    (floatEncode layout .f32 d = binary32.fields neg 255 0 ↔
      (2 : ℚ) ^ (128 : Nat) - 2 ^ (103 : Nat) ≤ m * 2 ^ q) ∧
    (floatEncode layout .f32 d = binary32.fields neg 0 0 ↔ (m : ℚ) * 2 ^ q ≤ 2 ^ (-150 : Int))) ∧
  (unpackBin binary16 0x7BFF).toRat = some 65504 ∧
  (unpackBin binary32 0x7F7FFFFF).toRat = some (2 ^ (128 : Nat) - 2 ^ (104 : Nat))

/-- Decoding Float16 and Float32 never rounds: the double has the sign and the rational value of the pattern,
infinities and zeros keep their sign, and every NaN gives a NaN (R257, R266). -/
def Obligations.HalfSingleDecodeExact : Prop :=
  ∀ (layout : Float80Layout) (x : Nat),
    ((doubleClass (floatDecode layout .f16 x)).Same (unpackBin binary16 x)) ∧
    ((doubleClass (floatDecode layout .f32 x)).Same (unpackBin binary32 x))

/-- The 10-byte patterns by their value formulas under both layouts, X87 with the explicit integer bit and
IMPLICIT with the hidden one, unnormals and pseudo-denormals included, pseudo-infinities and pseudo-NaNs as
NaN; and the `get` gives ToDouble of the class (R259, R260). -/
def Obligations.Float80Decode : Prop :=
  ∀ (neg : Bool) (e m : Nat), e < 2 ^ 15 → m < 2 ^ 64 →
    (e = 0x7FFF → m = 0x8000000000000000 → dec80 .x87 (fields80 neg e m) = .inf neg) ∧
    (e = 0x7FFF → m ≠ 0x8000000000000000 → dec80 .x87 (fields80 neg e m) = .nan) ∧
    (e ≠ 0x7FFF → m = 0 → dec80 .x87 (fields80 neg e m) = .zero neg) ∧
    (e ≠ 0x7FFF → m ≠ 0 → (dec80 .x87 (fields80 neg e m)).sign = some neg ∧
      (dec80 .x87 (fields80 neg e m)).toRat =
        some ((if neg then -1 else 1) * (m : ℚ) * 2 ^ ((max e 1 : Nat) - 16383 - 63 : Int))) ∧
    (e = 0x7FFF → m = 0 → dec80 .implicit (fields80 neg e m) = .inf neg) ∧
    (e = 0x7FFF → m ≠ 0 → dec80 .implicit (fields80 neg e m) = .nan) ∧
    (e = 0 → m = 0 → dec80 .implicit (fields80 neg e m) = .zero neg) ∧
    (e = 0 → m ≠ 0 → (dec80 .implicit (fields80 neg e m)).sign = some neg ∧
      (dec80 .implicit (fields80 neg e m)).toRat =
        some ((if neg then -1 else 1) * (m : ℚ) * 2 ^ (1 - 16383 - 64 : Int))) ∧
    (e ≠ 0 → e ≠ 0x7FFF → (dec80 .implicit (fields80 neg e m)).sign = some neg ∧
      (dec80 .implicit (fields80 neg e m)).toRat =
        some ((if neg then -1 else 1) * ((2 : ℚ) ^ (64 : Nat) + m) * 2 ^ ((e : Int) - 16383 - 64))) ∧
    ∀ layout, floatDecode layout .f80 (fields80 neg e m) = toDouble (dec80 layout (fields80 neg e m))

/-- Every double encodes exactly into the 10-byte float: of a finite value with E = floor(log2 |r|) the
exponent field is E + 16383, in [15309, 17406], and M is |r| * 2^(63 - E) with its top bit set under X87, and
|r| * 2^(64 - E) - 2^64 under IMPLICIT; NaN, infinities and zeros by their patterns (R261, R262). -/
def Obligations.Float80Encode : Prop :=
  ∀ (d : Word64),
    (doubleClass d = .nan →
      floatEncode .x87 .f80 d = fields80 false 0x7FFF 0xC000000000000000 ∧
      floatEncode .implicit .f80 d = fields80 false 0x7FFF 0x8000000000000000) ∧
    (∀ neg, doubleClass d = .inf neg →
      floatEncode .x87 .f80 d = fields80 neg 0x7FFF 0x8000000000000000 ∧
      floatEncode .implicit .f80 d = fields80 neg 0x7FFF 0) ∧
    (∀ neg, doubleClass d = .zero neg →
      floatEncode .x87 .f80 d = fields80 neg 0 0 ∧ floatEncode .implicit .f80 d = fields80 neg 0 0) ∧
    ∀ neg m q, doubleClass d = .fin neg m q →
      ∃ (E : Int) (e mx mi : Nat),
        (2 : ℚ) ^ E ≤ m * 2 ^ q ∧ (m : ℚ) * 2 ^ q < 2 ^ (E + 1) ∧
        (e : Int) = E + 16383 ∧ 15309 ≤ e ∧ e ≤ 17406 ∧
        mx < 2 ^ 64 ∧ mx.testBit 63 = true ∧ mi < 2 ^ 64 ∧
        (mx : ℚ) = m * 2 ^ q * 2 ^ (63 - E) ∧ (mi : ℚ) = m * 2 ^ q * 2 ^ (64 - E) - 2 ^ (64 : Nat) ∧
        floatEncode .x87 .f80 d = fields80 neg e mx ∧ floatEncode .implicit .f80 d = fields80 neg e mi

/-- NaN, infinity, zero and overflow: decoded NaNs become the canonical double NaN, encoded NaNs the target's
canonical NaN, Float64 copies its bits, infinities and zeros keep their sign in every direction, and a finite
value that overflows becomes an infinity (R255, R256). -/
def Obligations.SpecialValues : Prop :=
  ∀ (layout : Float80Layout),
    (∀ x, unpackBin binary16 x = .nan → floatDecode layout .f16 x = 0x7FF8000000000000#64) ∧
    (∀ x, unpackBin binary32 x = .nan → floatDecode layout .f32 x = 0x7FF8000000000000#64) ∧
    (∀ x, dec80 layout x = .nan → floatDecode layout .f80 x = 0x7FF8000000000000#64) ∧
    (∀ d, doubleClass d = .nan →
      floatEncode layout .f16 d = 0x7E00 ∧ floatEncode layout .f32 d = 0x7FC00000 ∧
      (layout = .x87 → floatEncode layout .f80 d = fields80 false 0x7FFF 0xC000000000000000) ∧
      (layout = .implicit → floatEncode layout .f80 d = fields80 false 0x7FFF 0x8000000000000000)) ∧
    (∀ d, floatEncode layout .f64 d = d.toNat ∧ floatDecode layout .f64 d.toNat = d) ∧
    (∀ (x : Nat) (neg : Bool),
      (unpackBin binary16 x = .inf neg → doubleClass (floatDecode layout .f16 x) = .inf neg) ∧
      (unpackBin binary16 x = .zero neg → doubleClass (floatDecode layout .f16 x) = .zero neg) ∧
      (unpackBin binary32 x = .inf neg → doubleClass (floatDecode layout .f32 x) = .inf neg) ∧
      (unpackBin binary32 x = .zero neg → doubleClass (floatDecode layout .f32 x) = .zero neg) ∧
      (dec80 layout x = .inf neg → doubleClass (floatDecode layout .f80 x) = .inf neg) ∧
      (dec80 layout x = .zero neg → doubleClass (floatDecode layout .f80 x) = .zero neg)) ∧
    (∀ (d : Word64) (neg : Bool),
      (doubleClass d = .inf neg →
        unpackBin binary16 (floatEncode layout .f16 d) = .inf neg ∧
        unpackBin binary32 (floatEncode layout .f32 d) = .inf neg ∧
        dec80 layout (floatEncode layout .f80 d) = .inf neg) ∧
      (doubleClass d = .zero neg →
        unpackBin binary16 (floatEncode layout .f16 d) = .zero neg ∧
        unpackBin binary32 (floatEncode layout .f32 d) = .zero neg ∧
        dec80 layout (floatEncode layout .f80 d) = .zero neg)) ∧
    ∀ (d : Word64) (neg : Bool) (m : Nat) (q : Int), doubleClass d = .fin neg m q →
      ((65520 : ℚ) ≤ m * 2 ^ q → unpackBin binary16 (floatEncode layout .f16 d) = .inf neg) ∧
      ((2 : ℚ) ^ (128 : Nat) - 2 ^ (103 : Nat) ≤ m * 2 ^ q →
        unpackBin binary32 (floatEncode layout .f32 d) = .inf neg)

/-- The canonical NaN patterns (R255). -/
def Obligations.CanonicalNaNs : Prop :=
  toDouble .nan = 0x7FF8000000000000#64 ∧ packClass binary64 .nan = 0x7FF8000000000000 ∧
  packClass binary32 .nan = 0x7FC00000 ∧ packClass binary16 .nan = 0x7E00 ∧
  enc80 .x87 .nan = 0x7FFF * 2 ^ 64 + 0xC000000000000000 ∧
  enc80 .implicit .nan = 0x7FFF * 2 ^ 64 + 0x8000000000000000 ∧
  dec80 .x87 (enc80 .x87 .nan) = .nan ∧ dec80 .implicit (enc80 .implicit .nan) = .nan

/-! ### The float commands: results and frames -/

/-- `float16LeGet`, `float16BeGet`, `float32LeGet`, `float32BeGet`, `float64LeGet`, `float64BeGet`,
`float80LeGet`, `float80BeGet`: where the window fits the command completes, RTAG is FLOAT, RESULT is `Dec_n`
of the pattern the bytes spell, and everything else stays (R264, R131). -/
def Obligations.FloatGetResult : Prop :=
  ∀ (i : Instr) (s : State) (c : CodecUnit) (f : FloatFormat) (order : ByteOrder),
    i.op = .get → i.token = .float f order → s.units[s.active]? = some c →
    c.offset + f.bytes ≤ c.bufSize →
    ∃ t d, exec i s = .next t ∧ t.units[s.active]? = some d ∧ Frame s.active s t c d ∧ SameBuf s t ∧
      d.Answers .ok
        { rtag := .float,
          result := some (floatDecode s.params.layout f (windowValue order s.buf c.offset f.bytes)),
          next := some (c.offset + f.bytes), delta := some f.bytes }

/-- Every float `put` and `putf` (float16LePut, float16LePutf, …, float80BePut, float80BePutf: 16 encodes)
whose window fits, whatever the double: the command completes, the window holds the pattern of `VALUE[63:0]`
in the token's byte order, every other byte and register stays, and no flush is requested (R131, R139,
R263). -/
def Obligations.FloatPutResult : Prop :=
  ∀ (i : Instr) (s : State) (c : CodecUnit) (f : FloatFormat) (order : ByteOrder),
    (i.op = .put ∨ i.op = .putf) → i.token = .float f order → s.units[s.active]? = some c →
    c.offset + f.bytes ≤ c.bufSize →
    ∃ t d, exec i s = .next t ∧ t.units[s.active]? = some d ∧ Frame s.active s t c d ∧
      d.Answers .ok
        { rtag := .noValue, next := some (c.offset + f.bytes), delta := some f.bytes } ∧
      windowValue order t.buf c.offset f.bytes =
        floatEncode s.params.layout f (c.value.extractLsb' 0 64) ∧
      SameBufOutside c.offset f.bytes s t

/-- A Float64 or Float80 `put` of a double that is no NaN, then a `get` of the token at the same offset, gives
the double back bit for bit, under both layouts; Float16 and Float32 give back the double of the target's
nearest pattern, with the sign and the value of that pattern (R267). -/
def Obligations.FloatPutThenGet : Prop :=
  ∀ (i j : Instr) (s : State) (c : CodecUnit) (f : FloatFormat) (order : ByteOrder),
    i.op = .put → j.op = .get → i.token = .float f order → j.token = .float f order →
    s.units[s.active]? = some c → c.offset + f.bytes ≤ c.bufSize →
    doubleClass (c.value.extractLsb' 0 64) ≠ .nan →
    ∃ t t' d r, exec i s = .next t ∧ exec j t = .next t' ∧ t'.units[s.active]? = some d ∧
      d.rtag = some .float ∧ d.result = some r ∧
      ((f = .f64 ∨ f = .f80) → r = c.value.extractLsb' 0 64) ∧
      (f = .f16 → (doubleClass r).Same
        (unpackBin binary16 (packClass binary16 (doubleClass (c.value.extractLsb' 0 64))))) ∧
      (f = .f32 → (doubleClass r).Same
        (unpackBin binary32 (packClass binary32 (doubleClass (c.value.extractLsb' 0 64)))))

/-- A Float16, Float32 or Float64 `get`, then a `put` of the RESULT with the same token at the same offset,
leaves every byte of BUF as it was, unless the window held a Float16 or Float32 NaN, which comes back
canonical (R267). -/
def Obligations.FloatGetThenPut : Prop :=
  ∀ (i j : Instr) (s : State) (c : CodecUnit) (f : FloatFormat) (order : ByteOrder),
    i.op = .get → j.op = .put → i.token = .float f order → j.token = .float f order →
    s.units[s.active]? = some c → c.offset + f.bytes ≤ c.bufSize → f ≠ .f80 →
    ∃ t d r t', exec i s = .next t ∧ t.units[s.active]? = some d ∧ d.result = some r ∧
      exec j (t.setUnit s.active { d with value := r.setWidth 66 }) = .next t' ∧
      SameBufOutside c.offset f.bytes s t' ∧
      (f = .f64 → SameBuf s t') ∧
      (f = .f16 → unpackBin binary16 (windowValue order s.buf c.offset 2) ≠ .nan → SameBuf s t') ∧
      (f = .f16 → unpackBin binary16 (windowValue order s.buf c.offset 2) = .nan →
        windowValue order t'.buf c.offset 2 = 0x7E00) ∧
      (f = .f32 → unpackBin binary32 (windowValue order s.buf c.offset 4) ≠ .nan → SameBuf s t') ∧
      (f = .f32 → unpackBin binary32 (windowValue order s.buf c.offset 4) = .nan →
        windowValue order t'.buf c.offset 4 = 0x7FC00000)

/-! ### The span, span-copy, ignore and LENGTH commands (spec/43_span.md, 40_contract.md) -/

/-- `spanGet`: its word is 0x0000000C; ILLEGAL_COMMAND where LEN = 0, else OUT_OF_BOUNDS where the window does
not fit, else a view of base OFFSET and length N; no byte of BUF is touched and nothing else changes (R330).
An error clears FLUSH_ACK (R137). -/
def Obligations.SpanGet : Prop :=
  encode .spanGet = 0x0000000C#32 ∧
  ∀ (s : State) (c : CodecUnit), s.units[s.active]? = some c →
    ∃ t d, exec .spanGet s = .next t ∧ t.units[s.active]? = some d ∧ SameBuf s t ∧
      (c.len = 0 → d.Answers .illegalCommand noFields ∧
        Frame s.active s t { c with flushAck := false } d) ∧
      (c.len ≠ 0 → c.bufSize < c.offset + c.len → d.Answers .outOfBounds noFields ∧
        Frame s.active s t { c with flushAck := false } d) ∧
      (c.len ≠ 0 → c.offset + c.len ≤ c.bufSize → Frame s.active s t c d ∧
        d.Answers .ok
          { rtag := .view, result := some (BitVec.ofNat 64 c.offset), rlen := some c.len,
            next := some (c.offset + c.len), delta := some c.len })

/-- `spanCopyGet`: its word is 0x00000010; ILLEGAL_COMMAND where LEN = 0, else OUT_OF_BOUNDS where the window
does not fit, else RDATA is the bytes of the window in address order, with no byte-order transformation, a
snapshot that no later move of the host over BUF or its views and no later command of another unit changes
(R332; that the same unit's next command marks RDATA absent is R131's, log 17). An error clears FLUSH_ACK
(R137). -/
def Obligations.SpanCopyGet : Prop :=
  encode .spanCopyGet = 0x00000010#32 ∧
  ∀ (s : State) (c : CodecUnit), s.units[s.active]? = some c →
    ∃ t d, exec .spanCopyGet s = .next t ∧ t.units[s.active]? = some d ∧ SameBuf s t ∧
      (c.len = 0 → d.Answers .illegalCommand noFields ∧
        Frame s.active s t { c with flushAck := false } d) ∧
      (c.len ≠ 0 → c.bufSize < c.offset + c.len → d.Answers .outOfBounds noFields ∧
        Frame s.active s t { c with flushAck := false } d) ∧
      (c.len ≠ 0 → c.offset + c.len ≤ c.bufSize → Frame s.active s t c d ∧
        (∃ bs, bs.length = c.len ∧
          (∀ k, k < c.len → bs[k]? = some (s.buf.read (c.offset + k))) ∧
          d.Answers .ok
            { rtag := .bytes, rlen := some c.len, rdata := some bs, next := some (c.offset + c.len),
              delta := some c.len }) ∧
        ∀ m t', m.unit? ≠ some s.active → runMove m t = .next t' →
          ∃ e, t'.units[s.active]? = some e ∧ e.rdata = d.rdata)

/-- `ignoreGet`: its word is 0x00000014; ILLEGAL_COMMAND where LEN = 0, else OUT_OF_BOUNDS where the window
does not fit, else it reads and writes no byte, answers NONE and moves the cursor (R333). An error clears
FLUSH_ACK (R137). -/
def Obligations.IgnoreGet : Prop :=
  encode .ignoreGet = 0x00000014#32 ∧
  ∀ (s : State) (c : CodecUnit), s.units[s.active]? = some c →
    ∃ t d, exec .ignoreGet s = .next t ∧ t.units[s.active]? = some d ∧ SameBuf s t ∧
      (c.len = 0 → d.Answers .illegalCommand noFields ∧
        Frame s.active s t { c with flushAck := false } d) ∧
      (c.len ≠ 0 → c.bufSize < c.offset + c.len → d.Answers .outOfBounds noFields ∧
        Frame s.active s t { c with flushAck := false } d) ∧
      (c.len ≠ 0 → c.offset + c.len ≤ c.bufSize → Frame s.active s t c d ∧
        d.Answers .ok
          { rtag := .noValue, next := some (c.offset + c.len), delta := some c.len })

/-- `len tok`, for every token: ILLEGAL_COMMAND where the token fields are illegal or a span or ignore token
has LEN = 0; else RTAG is LENGTH and RLEN the token's length, NEXT and DELTA absent, whatever OFFSET and
BUF_SIZE are and with no byte of BUF touched; every legal token has its LENGTH word (R145). -/
def Obligations.LengthCommand : Prop :=
  (∀ tok : Token, tok.wellFormed = true → lengthRow.admits (encode (.len tok)) = true ∧
    decode (encode (.len tok)) = .ok (.len tok)) ∧
  encode (.len (.float .f80 .be)) = 0x000001AB#32 ∧
  ∀ (tok : Token) (s : State) (c : CodecUnit), s.units[s.active]? = some c →
    ∃ t d, exec (.len tok) s = .next t ∧ t.units[s.active]? = some d ∧ SameBuf s t ∧
      ((tok.wellFormed = false ∨ ((tok = .span ∨ tok = .spanCopy ∨ tok = .ignore) ∧ c.len = 0)) →
        d.Answers .illegalCommand noFields ∧ Frame s.active s t { c with flushAck := false } d) ∧
      (∀ sg w order, tok = .int sg w order → tok.wellFormed = true → Frame s.active s t c d ∧
        d.Answers .ok { rtag := .length, rlen := some w.bytes }) ∧
      (∀ f order, tok = .float f order → Frame s.active s t c d ∧
        d.Answers .ok { rtag := .length, rlen := some f.bytes }) ∧
      ((tok = .span ∨ tok = .spanCopy ∨ tok = .ignore) → c.len ≠ 0 → Frame s.active s t c d ∧
        d.Answers .ok { rtag := .length, rlen := some c.len })

/-! ### Bounds, errors and their order (spec/40_contract.md, 60_exceptions.md) -/

/-- The corner cases of the bounds check, for every token length n of at least 1 (R134). -/
def Obligations.FitsCornerCases : Prop :=
  ∀ n size : Nat, 1 ≤ n →
    (n ≤ size → fits (size - n) n size = true ∧ fits (size - n + 1) n size = false) ∧
    (∀ o, size < o → fits o n size = false) ∧
    (∀ o, fits o n 0 = false) ∧
    (∀ p : Params, size < 2 ^ p.offsetBits → fits (2 ^ p.offsetBits - 1) n size = false) ∧
    ∀ o, fits o n size = true ↔ o + n ≤ size

/-- Every `get` and every `put` whose window does not lie inside BUF ends with OUT_OF_BOUNDS, where no check
before the bounds check fails (LEN of a span or ignore token not 0, an integer operand in range): no byte of
BUF and no register but the response and FLUSH_ACK changes (R133, R345). -/
def Obligations.OutOfBounds : Prop :=
  ∀ (i : Instr) (s : State) (c : CodecUnit),
    (i.op = .get ∨ i.op = .put) → s.units[s.active]? = some c →
    ((i.token = .span ∨ i.token = .spanCopy ∨ i.token = .ignore) → c.len ≠ 0) → ¬BadValue i c.value →
    c.bufSize < c.offset + i.token.length c.len →
    ∃ t d, exec i s = .next t ∧ t.units[s.active]? = some d ∧ d.Answers .outOfBounds noFields ∧
      Frame s.active s t { c with flushAck := false } d ∧ SameBuf s t

/-- A command ends with OUT_OF_RANGE exactly when it is an integer `put` or `putf` and `sint_66(VALUE)` lies
outside the range of R160; floats, spans and ignores never do (R343, R168, R250). -/
def Obligations.OutOfRange : Prop :=
  ∀ (i : Instr) (s : State) (c : CodecUnit), s.units[s.active]? = some c →
    ∃ t d, exec i s = .next t ∧ t.units[s.active]? = some d ∧
      ((d.unitState = .idle ∧ d.status = .outOfRange) ↔ BadValue i c.value) ∧
      (BadValue i c.value → d.Answers .outOfRange noFields ∧
        Frame s.active s t { c with flushAck := false } d ∧ SameBuf s t)

/-- A `putf` whose window does not fit and whose FLUSH_CB = 0 ends with NO_FLUSH_CALLBACK and writes nothing;
no flush request is made, and the unit can take the next issue (R141, R346). -/
def Obligations.NoFlushCallback : Prop :=
  ∀ (i : Instr) (s : State) (c : CodecUnit),
    i.op = .putf → s.units[s.active]? = some c → ¬BadValue i c.value → c.flushCb = false →
    c.bufSize < c.offset + i.token.length c.len →
    ∃ t d, exec i s = .next t ∧ t.units[s.active]? = some d ∧ d.Answers .noFlushCallback noFields ∧
      Frame s.active s t { c with flushAck := false } d ∧ SameBuf s t ∧
      (c.flight = none → d.notIssuable = none)

/-- The checks of an issued command in their order: ILLEGAL_COMMAND, then OUT_OF_RANGE, then the bounds check,
with its three outcomes by operation; a command that fails none succeeds; and an acknowledged flush ends with
FLUSH_NO_ROOM exactly when n > BUF_SIZE (R342). -/
def Obligations.ErrorPriority : Prop :=
  ∀ (s : State) (u : Nat) (c : CodecUnit), s.units[u]? = some c → c.unitState = .idle → c.flight = none →
    ∃ t d, issue u s = .next t ∧ t.units[u]? = some d ∧
      (∀ e, decodeCmd c.cmd c.len = .error e → d.Answers .illegalCommand noFields) ∧
      ∀ i, decodeCmd c.cmd c.len = .ok i →
        (BadValue i c.value → d.Answers .outOfRange noFields) ∧
        (¬BadValue i c.value →
          (i.op = .length ∨ c.offset + i.token.length c.len ≤ c.bufSize →
            d.status = .ok ∧ d.unitState = .idle) ∧
          (i.op ≠ .length → c.bufSize < c.offset + i.token.length c.len →
            ((i.op = .get ∨ i.op = .put) → d.Answers .outOfBounds noFields) ∧
            (i.op = .putf → c.flushCb = false → d.Answers .noFlushCallback noFields) ∧
            (i.op = .putf → c.flushCb = true → d.unitState = .flushWait ∧ d.flushReq = true ∧
              ∃ t₁ t₂ d₂, hostWriteReg u (.flushAck true) t = .next t₁ ∧ resume u t₁ = .next t₂ ∧
                t₂.units[u]? = some d₂ ∧ d₂.unitState = .idle ∧
                (c.bufSize < i.token.length c.len → d₂.status = .flushNoRoom) ∧
                (i.token.length c.len ≤ c.bufSize → d₂.status = .ok))))

/-- Errors are precise: after an issue that ends with an error, and after an acknowledged flush that does, the
state is the one before but for STATUS, RTAG = NONE and the absent response fields (and FLUSH_ACK, which is 0;
after a flush also UNIT_STATE, FLUSH_REQ, FLUSH_OFF and CTX, which leave the wait): the unit has written no
byte of BUF (R137, R344). -/
def Obligations.ErrorsPrecise : Prop :=
  (∀ (s t : State) (u : Nat) (c d : CodecUnit), s.units[u]? = some c → issue u s = .next t →
    t.units[u]? = some d → d.unitState = .idle → d.status ≠ .ok →
    d.Answers d.status noFields ∧ Frame u { s with active := u } t { c with flushAck := false } d ∧
    SameBuf s t) ∧
  ∀ (s t : State) (u : Nat) (c d : CodecUnit) (k : FlushContext), s.units[u]? = some c →
    c.ctx = some k → c.unitState = .flushWait → c.flushAck = true → resume u s = .next t →
    t.units[u]? = some d → d.status ≠ .ok →
    d.Answers .flushNoRoom noFields ∧
    Frame u s t { c with flushAck := false, flushOff := none, ctx := none } d ∧ SameBuf s t

/-! ### The flush handshake (spec/40_contract.md R139 to R144) -/

/-- The whole handshake of every `putf` (int8Putf, uint16LePutf, …, float80BePutf: 26 instructions) that does
not fit and has a callback. Step 1: the unit waits with FLUSH_REQ = 1, FLUSH_OFF = OFFSET and the latched
command in CTX, and touches no byte. Then the host reads the unit's registers and reads and writes BUF and its
views as it likes, and the other units make any moves (`WaitingUnitStays` speaks of its other moves). Step 2,
once FLUSH_ACK = 1: FLUSH_NO_ROOM if n > BUF_SIZE, else the bytes fixed at the issue stand at 0 and nowhere
else, NEXT = n, DELTA = n - OFFSET (R140). -/
def Obligations.FlushHandshake : Prop :=
  ∀ (i : Instr) (s : State) (c : CodecUnit) (bs : List Byte),
    i.op = .putf → s.units[s.active]? = some c →
    encodeBytes s.params.layout i.token c.value = .ok bs →
    c.bufSize < c.offset + bs.length → c.flushCb = true →
    ∃ t d, exec i s = .next t ∧ t.units[s.active]? = some d ∧ SameBuf s t ∧
      bs.length = i.token.length c.len ∧
      d.unitState = .flushWait ∧ d.flushReq = true ∧ d.flushOff = some c.offset ∧
      d.ctx = some { tok := i.token, offset := c.offset, bytes := bs, bufSize := c.bufSize } ∧
      d.status = c.status ∧
      Frame s.active s t { c with flushOff := d.flushOff, ctx := d.ctx } d ∧
      ∀ (ms : List Move) (t' : State),
        (∀ m ∈ ms, m.unit? ≠ some s.active ∨ ∃ r, m = .readReg s.active r) → runMoves ms t = .next t' →
        ∃ t₁ t₂ d₂, hostWriteReg s.active (.flushAck true) t' = .next t₁ ∧
          resume s.active t₁ = .next t₂ ∧ t₂.units[s.active]? = some d₂ ∧ d₂.flushAck = false ∧
          d₂.ctx = none ∧ d₂.flushOff = none ∧
          (c.bufSize < bs.length → d₂.Answers .flushNoRoom noFields ∧ SameBuf t' t₂) ∧
          (bs.length ≤ c.bufSize →
            d₂.Answers .ok
              { rtag := .noValue, next := some bs.length, delta := some ((bs.length : Int) - c.offset) } ∧
            (∀ k, k < bs.length → bs[k]? = some (t₂.buf.read k)) ∧ SameBufOutside 0 bs.length t' t₂)

/-- Until it is acknowledged a waiting unit has no step: whatever moves the host and the units make, short of
writing FLUSH_ACK = 1 to it and of resetting it, it stays exactly as it is (R143). (The premise that it has no
command in flight is part of the invariant every step keeps.) -/
def Obligations.WaitingUnitStays : Prop :=
  ∀ (ms : List Move) (s t : State) (u : Nat) (c : CodecUnit), s.units[u]? = some c →
    c.unitState = .flushWait → c.flushAck = false → c.flight = none →
    (∀ m ∈ ms, m ≠ .writeReg u (.flushAck true) ∧ m ≠ .reset u) → runMoves ms s = .next t →
    t.units[u]? = some c

/-- An issue attempted in FLUSH_WAIT is refused, as is a split one; a command on another unit that can take one
proceeds and leaves the waiting unit as it is (R142). -/
def Obligations.IssueRefusedInFlushWait : Prop :=
  ∀ (s : State) (u : Nat) (c : CodecUnit), s.units[u]? = some c → c.unitState = .flushWait →
    issue u s = .refused .issueInFlushWait ∧ beginSplit u s = .refused .issueInFlushWait ∧
    ∀ (v : Nat) (d : CodecUnit), v ≠ u → s.units[v]? = some d → d.unitState = .idle → d.flight = none →
      ∃ t, issue v s = .next t ∧ t.units[u]? = some c

/-- Every command ends within two unit steps if the host acknowledges: an issue on a unit that can take one
leaves it idle with its response, or waiting, and then the acknowledgement and one more step leave it idle
with its response (R385). -/
def Obligations.EndsInTwoSteps : Prop :=
  ∀ (s : State) (u : Nat) (c : CodecUnit), s.units[u]? = some c → c.unitState = .idle → c.flight = none →
    ∃ t d, issue u s = .next t ∧ t.units[u]? = some d ∧
      ((d.unitState = .idle ∧ d.rtag.isSome = true ∧ d.flight = none) ∨
      (d.unitState = .flushWait ∧ ∃ t₁ t₂ d₂, hostWriteReg u (.flushAck true) t = .next t₁ ∧
        resume u t₁ = .next t₂ ∧ t₂.units[u]? = some d₂ ∧ d₂.unitState = .idle ∧
        d₂.rtag.isSome = true ∧ d₂.flight = none))

/-! ### What every command keeps to -/

/-- The length of a token is one number for its four operations: LENGTH reports it, a successful `get`, `put`
or `putf` moves the cursor by it, and a `putf` that waits for its flush holds that many bytes (R136). -/
def Obligations.LengthConsistent : Prop :=
  ∀ (tok : Token) (s : State) (c : CodecUnit), s.units[s.active]? = some c → tok.wellFormed = true →
    ((tok = .span ∨ tok = .spanCopy ∨ tok = .ignore) → c.len ≠ 0) →
    ∃ t₀ d₀ n, exec (.len tok) s = .next t₀ ∧ t₀.units[s.active]? = some d₀ ∧ d₀.rlen = some n ∧ 1 ≤ n ∧
      ∀ (i : Instr) (t : State) (d : CodecUnit), i.token = tok → i.op ≠ .length → exec i s = .next t →
        t.units[s.active]? = some d →
        (d.unitState = .idle → d.status = .ok →
          d.next = some (c.offset + n) ∧ d.delta = some n) ∧
        (d.unitState = .flushWait → ∃ k, d.ctx = some k ∧ k.bytes.length = n) ∧
        (d.unitState = .idle → d.status = .ok ∨ d.next = none)

/-- No `get` (uint8Get, …, float80BeGet, spanGet, spanCopyGet, ignoreGet) changes a byte of BUF, and a `get`
is idempotent: repeated with no intervening write it gives the same response (R77). -/
def Obligations.GetsLeaveBuf : Prop :=
  ∀ (i : Instr) (s : State) (c : CodecUnit), i.op = .get → s.units[s.active]? = some c →
    ∃ t t' d d', exec i s = .next t ∧ exec i t = .next t' ∧ t.units[s.active]? = some d ∧
      t'.units[s.active]? = some d' ∧ SameBuf s t ∧ SameBuf s t' ∧
      d'.status = d.status ∧ d'.response? = d.response?

/-- A `put` or `putf` changes no byte outside the window it uses, [OFFSET, OFFSET + n), or [0, n) after a
flush, and its window then holds its bytes; while it waits, and where it fails, it changes no byte (R78). -/
def Obligations.EncodesWriteOnlyWindow : Prop :=
  (∀ (i : Instr) (s : State) (c : CodecUnit), (i.op = .put ∨ i.op = .putf) → s.units[s.active]? = some c →
    ∃ t d, exec i s = .next t ∧ t.units[s.active]? = some d ∧
      ((d.unitState = .flushWait ∨ d.status ≠ .ok) → SameBuf s t) ∧
      (d.unitState = .idle → d.status = .ok → ∃ bs,
        encodeBytes s.params.layout i.token c.value = .ok bs ∧ bs.length = i.token.length c.len ∧
        (∀ k, k < bs.length → bs[k]? = some (t.buf.read (c.offset + k))) ∧
        SameBufOutside c.offset bs.length s t)) ∧
  ∀ (s : State) (u : Nat) (c : CodecUnit) (k : FlushContext), s.units[u]? = some c → c.ctx = some k →
    c.unitState = .flushWait → c.flushAck = true →
    ∃ t d, resume u s = .next t ∧ t.units[u]? = some d ∧
      (d.status ≠ .ok → SameBuf s t) ∧
      (d.status = .ok → (∀ j, j < k.bytes.length → k.bytes[j]? = some (t.buf.read j)) ∧
        SameBufOutside 0 k.bytes.length s t)

/-- The outcome of a command is a function of the request registers latched at the issue and of the bytes of
its window: two states that agree on those, whatever else they hold, give the same status, the same response,
the same pending flush and the same bytes written, and an acknowledged flush writes the same bytes and gives
the same response whatever stands in BUF (R146). -/
def Obligations.Statelessness : Prop :=
  (∀ (i : Instr) (s₁ s₂ : State) (c₁ c₂ : CodecUnit), s₁.params.layout = s₂.params.layout →
    s₁.units[s₁.active]? = some c₁ → s₂.units[s₂.active]? = some c₂ → c₁.SameRequest c₂ →
    (∀ a, c₁.offset ≤ a → a < c₁.offset + i.token.length c₁.len → s₁.buf.read a = s₂.buf.read a) →
    ∃ t₁ t₂ d₁ d₂, exec i s₁ = .next t₁ ∧ exec i s₂ = .next t₂ ∧
      t₁.units[s₁.active]? = some d₁ ∧ t₂.units[s₂.active]? = some d₂ ∧
      d₁.unitState = d₂.unitState ∧
      (d₁.unitState = .idle → d₁.status = d₂.status ∧ d₁.response? = d₂.response?) ∧
      (d₁.unitState = .flushWait → d₁.ctx = d₂.ctx) ∧
      (∀ a, c₁.offset ≤ a → a < c₁.offset + i.token.length c₁.len → t₁.buf.read a = t₂.buf.read a) ∧
      SameBufOutside c₁.offset (i.token.length c₁.len) s₁ t₁ ∧
      SameBufOutside c₁.offset (i.token.length c₁.len) s₂ t₂) ∧
  ∀ (s₁ s₂ : State) (u₁ u₂ : Nat) (c₁ c₂ : CodecUnit) (k : FlushContext),
    s₁.units[u₁]? = some c₁ → s₂.units[u₂]? = some c₂ → c₁.ctx = some k → c₂.ctx = some k →
    c₁.resumable = true → c₂.resumable = true →
    ∃ t₁ t₂ d₁ d₂, resume u₁ s₁ = .next t₁ ∧ resume u₂ s₂ = .next t₂ ∧
      t₁.units[u₁]? = some d₁ ∧ t₂.units[u₂]? = some d₂ ∧
      d₁.status = d₂.status ∧ d₁.response? = d₂.response? ∧
      (d₁.status = .ok → ∀ a, a < k.bytes.length → t₁.buf.read a = t₂.buf.read a)

/-! ### The machine -/

/-- A step runs the decoded command. Where the next move is the issue of a unit that can take it and its
command word decodes to `i`, the step is `exec i` on that state, the move taken from the schedule, the unit
active and its FLUSH_ACK cleared; and the step of a state with a table row's word placed by `withFetchWord` is
`exec` of the instruction that word decodes to, likewise (R130, R131; the schedule is the model's, log 5). -/
def Obligations.StepRunsDecoded : Prop :=
  (∀ (s : State) (u : Nat) (c : CodecUnit) (i : Instr) (rest : List Move),
    s.sched = .issue u :: rest → s.units[u]? = some c → c.unitState = .idle → c.flight = none →
    decode c.cmd = .ok i →
    step s = exec i (({ s with sched := rest } : State).latch u c)) ∧
  ∀ (s : State) (c : CodecUnit) (nbits w : Nat) (i : Instr), s.units[0]? = some c →
    decodeTableWord nbits w = some i →
    step (s.withFetchWord nbits w) =
      exec i ((s.setUnit 0 (c.withCommand (wordOfBits nbits w))).latch 0
        (c.withCommand (wordOfBits nbits w)))

/-- The reset state, for any parameters R7 lets, keeps to the invariant (R370, R371, R359; its parameters are
log 2's choice and that it holds no view is log 13's). -/
def Obligations.InvReset : Prop :=
  State.Inv State.reset ∧ ∀ p : Params, p.wf → State.Inv (State.resetWith p)

/-- Every step keeps the invariant: the registers fit their widths, BUF stays canonical, UNIT_STATE, FLUSH_REQ,
FLUSH_OFF and CTX agree (R50, R51), the response fields are those of RTAG and absent while a command is pending
(R43 to R48, R131; for RTAG in FLUSH_WAIT log 8), an error shows no field (R137), STATUS is no reserved code (R348), and every view lies in
the address range (R330). -/
def Obligations.InvStep : Prop :=
  ∀ s t : State, State.Inv s → step s = .next t → State.Inv t

/-- A move of unit `u` leaves every other unit as it is, the host's moves over BUF and its views leave every
unit as it is, and no move changes the parameters or the number of units (R352, R359, R374). -/
def Obligations.OtherUnitsUntouched : Prop :=
  ∀ (m : Move) (s t : State), runMove m s = .next t →
    t.params = s.params ∧ t.units.length = s.units.length ∧ t.sched = s.sched ∧
    ∀ v, m.unit? ≠ some v → t.units[v]? = s.units[v]?

/-- STATUS is written once, at the end of a command, and by nothing else but reset: a move that changes a
unit's STATUS is an issue, a step 2 of a flush, a response of a command that ran split, or a reset of that
unit, and the unit is then idle with nothing pending, or was reset (R42). -/
def Obligations.StatusWrittenAtEnd : Prop :=
  ∀ (m : Move) (s t : State) (u : Nat) (c d : CodecUnit), runMove m s = .next t →
    s.units[u]? = some c → t.units[u]? = some d → d.status ≠ c.status →
    m = .reset u ∨
    ((m = .issue u ∨ m = .begin u ∨ m = .finish u ∨ m = .resume u ∨ m = .resumeSplit u) ∧
      d.unitState = .idle ∧ d.flushReq = false ∧ d.rtag.isSome = true)

/-- A reset of a unit, in any state, sets every register of R33 to its reset value and the fields with no value
to absent, abandons a pending command, leaves BUF, the host's views and every other unit as they are, and the
unit is ready to take a command (R370, R371, R372, R373). -/
def Obligations.ResetUnit : Prop :=
  ∀ (s : State) (u : Nat) (c : CodecUnit), s.units[u]? = some c →
    ∃ t d, resetUnit u s = .next t ∧ t.units[u]? = some d ∧
      d.cmd = 0 ∧ d.offset = 0 ∧ d.len = 0 ∧ d.value = 0 ∧ d.bufSize = 0 ∧ d.flushCb = false ∧
      d.flushAck = false ∧ d.flushReq = false ∧ d.status.code = 0 ∧ d.rtag = some .noValue ∧
      RTag.noValue.code = 0 ∧ d.unitState.code = 0 ∧ d.result = none ∧ d.rlen = none ∧ d.rdata = none ∧
      d.next = none ∧ d.delta = none ∧ d.flushOff = none ∧ d.ctx = none ∧
      d.notIssuable = none ∧ SameBuf s t ∧ t.views = s.views ∧
      ∀ v, v ≠ u → t.units[v]? = s.units[v]?

/-- The unit reads FLUSH_ACK in FLUSH_WAIT alone: what it holds when a command is issued does not matter, the
issue leaves it 0, and leaving FLUSH_WAIT clears it (R52). That step 2 of a flush, tried in IDLE, leaves the
state as it is, is the model's choice (log 7). -/
def Obligations.FlushAckRules : Prop :=
  ∀ (s : State) (u : Nat) (c : CodecUnit), s.units[u]? = some c →
    (c.unitState = .idle → c.flight = none → ∀ b : Bool,
      ∃ t d, issue u s = .next t ∧ issue u (s.setUnit u { c with flushAck := b }) = .next t ∧
        t.units[u]? = some d ∧ d.flushAck = false) ∧
    (c.unitState = .idle → resume u s = .next s) ∧
    (∀ k, c.unitState = .flushWait → c.ctx = some k → c.flushAck = true →
      ∃ t d, resume u s = .next t ∧ t.units[u]? = some d ∧ d.unitState = .idle ∧ d.flushAck = false)

/-- What the host may write and where: FLUSH_ACK in any state, a request register only in IDLE, a value only if
it fits its register; the write changes that register alone and no byte of BUF; and a host access to a byte of
BUF happens below some unit's BUF_SIZE and is a fault above every one (R33, R89, R81; log 9 for several
units). -/
def Obligations.HostAccess : Prop :=
  ∀ (s : State) (u : Nat) (c : CodecUnit), s.units[u]? = some c →
    (∀ b : Bool, hostWriteReg u (.flushAck b) s = .next (s.setUnit u { c with flushAck := b })) ∧
    (c.unitState = .idle →
      (∀ v, hostWriteReg u (.cmd v) s = .next (s.setUnit u { c with cmd := v })) ∧
      (∀ v, hostWriteReg u (.value v) s = .next (s.setUnit u { c with value := v })) ∧
      (∀ b, hostWriteReg u (.flushCb b) s = .next (s.setUnit u { c with flushCb := b })) ∧
      ∀ v, v < 2 ^ s.params.offsetBits →
        hostWriteReg u (.offset v) s = .next (s.setUnit u { c with offset := v }) ∧
        hostWriteReg u (.len v) s = .next (s.setUnit u { c with len := v }) ∧
        hostWriteReg u (.bufSize v) s = .next (s.setUnit u { c with bufSize := v })) ∧
    (c.unitState = .flushWait → ∀ w t, hostWriteReg u w s = .next t → ∃ b, w = .flushAck b) ∧
    (∀ v, 2 ^ s.params.offsetBits ≤ v →
      hostWriteReg u (.offset v) s = .refused .valueTooWide ∧
      hostWriteReg u (.len v) s = .refused .valueTooWide ∧
      hostWriteReg u (.bufSize v) s = .refused .valueTooWide) ∧
    (∀ a b, a < c.bufSize →
      (∃ t, hostBufRead a s = .next t ∧ t.seen = some (.unsigned (s.buf.read a).toNat) ∧ SameBuf s t ∧
        t.units = s.units) ∧
      ∃ t, hostBufWrite a b s = .next t ∧ t.buf.read a = b ∧ SameBufOutside a 1 s t ∧ t.units = s.units) ∧
    ∀ a b, (∀ d ∈ s.units, d.bufSize ≤ a) →
      hostBufRead a s = .fault .noSuchAddress ∧ hostBufWrite a b s = .fault .noSuchAddress

/-- What a host read of each register of R33, and of RDATA, gives: its value where it holds one, and a fault of
the host's program where it holds none (R56), with the codes of UNIT_STATE (R49), RTAG (R43) and STATUS (R340);
the read changes nothing but what the host has seen, which is the model's field (log 15). After an error every
value field is absent. -/
def Obligations.AbsentReads : Prop :=
  ∀ (s : State) (u : Nat) (c : CodecUnit), s.units[u]? = some c →
    HostReads u .cmd (.unsigned c.cmd.toNat) s ∧ HostReads u .offset (.unsigned c.offset) s ∧
    HostReads u .len (.unsigned c.len) s ∧ HostReads u .value (.unsigned c.value.toNat) s ∧
    HostReads u .bufSize (.unsigned c.bufSize) s ∧
    HostReads u .flushCb (.unsigned (if c.flushCb then 1 else 0)) s ∧
    HostReads u .flushReq (.unsigned (if c.flushReq then 1 else 0)) s ∧
    HostReads u .flushAck (.unsigned (if c.flushAck then 1 else 0)) s ∧
    (c.unitState = .idle → HostReads u .unitState (.unsigned 0) s) ∧
    (c.unitState = .flushWait → HostReads u .unitState (.unsigned 1) s) ∧
    ((c.status = .ok → HostReads u .status (.unsigned 0) s) ∧
      (c.status = .illegalCommand → HostReads u .status (.unsigned 1) s) ∧
      (c.status = .outOfRange → HostReads u .status (.unsigned 2) s) ∧
      (c.status = .outOfBounds → HostReads u .status (.unsigned 3) s) ∧
      (c.status = .noFlushCallback → HostReads u .status (.unsigned 4) s) ∧
      (c.status = .flushNoRoom → HostReads u .status (.unsigned 5) s) ∧
      (c.status = .invalidEncodingByte → HostReads u .status (.unsigned 6) s) ∧
      (c.status = .malformedSequence → HostReads u .status (.unsigned 7) s)) ∧
    ((c.rtag = some .noValue → HostReads u .rtag (.unsigned 0) s) ∧
      (c.rtag = some .uint → HostReads u .rtag (.unsigned 1) s) ∧
      (c.rtag = some .sint → HostReads u .rtag (.unsigned 2) s) ∧
      (c.rtag = some .float → HostReads u .rtag (.unsigned 3) s) ∧
      (c.rtag = some .view → HostReads u .rtag (.unsigned 4) s) ∧
      (c.rtag = some .bytes → HostReads u .rtag (.unsigned 5) s) ∧
      (c.rtag = some .length → HostReads u .rtag (.unsigned 6) s)) ∧
    (∀ v, c.result = some v → HostReads u .result (.unsigned v.toNat) s) ∧
    (∀ n, c.rlen = some n → HostReads u .rlen (.unsigned n) s) ∧
    (∀ bs, c.rdata = some bs → HostReads u .rdata (.bytes bs) s) ∧
    (∀ n, c.next = some n → HostReads u .next (.unsigned n) s) ∧
    (∀ z, c.delta = some z → HostReads u .delta (.signed z) s) ∧
    (∀ n, c.flushOff = some n → HostReads u .flushOff (.unsigned n) s) ∧
    (c.rtag = none → hostReadReg u .rtag s = .fault .absentRead) ∧
    (c.result = none → hostReadReg u .result s = .fault .absentRead) ∧
    (c.rlen = none → hostReadReg u .rlen s = .fault .absentRead) ∧
    (c.rdata = none → hostReadReg u .rdata s = .fault .absentRead) ∧
    (c.next = none → hostReadReg u .next s = .fault .absentRead) ∧
    (c.delta = none → hostReadReg u .delta s = .fault .absentRead) ∧
    (c.flushOff = none → hostReadReg u .flushOff s = .fault .absentRead) ∧
    ∀ r, r = .result ∨ r = .rlen ∨ r = .rdata ∨ r = .next ∨ r = .delta → ∀ e,
      hostReadReg u r (s.setUnit u (c.raise e)) = .fault .absentRead

/-- A view is an alias of BUF: after a `SPAN.get` the host takes the view (OFFSET, N); ViewRead gives the byte
of BUF as it stands at the time, ViewWrite writes it and no other byte, an index at or beyond the length is
refused, and a view once held stays held, unchanged, after every move (R331). The list of the views, the taking
of one, and that an access checks the index and not BUF_SIZE are the model's choices (log 13). -/
def Obligations.ViewAccess : Prop :=
  (∀ (s : State) (c : CodecUnit), s.units[s.active]? = some c → c.len ≠ 0 →
    c.offset + c.len ≤ c.bufSize → c.offset < 2 ^ 64 →
    ∃ t t', exec .spanGet s = .next t ∧ hostTakeView s.active t = .next t' ∧ SameBuf s t' ∧
      t'.views = s.views ++ [{ base := c.offset, len := c.len }]) ∧
  (∀ (s : State) (v i : Nat) (x : Byte) (w : SpanView), s.views[v]? = some w →
    (i < w.len →
      (∃ t, hostViewRead v i s = .next t ∧ t.seen = some (.unsigned (s.buf.read (w.base + i)).toNat) ∧
        SameBuf s t ∧ t.units = s.units) ∧
      ∃ t, hostViewWrite v i x s = .next t ∧ t.buf.read (w.base + i) = x ∧
        SameBufOutside (w.base + i) 1 s t ∧ t.units = s.units) ∧
    (w.len ≤ i → hostViewRead v i s = .refused .viewIndex ∧
      hostViewWrite v i x s = .refused .viewIndex)) ∧
  ∀ (m : Move) (s t : State) (v : Nat) (w : SpanView), s.views[v]? = some w → runMove m s = .next t →
    t.views[v]? = some w

/-- A view and a copy of one window agree at the time of the commands: after `SPAN.get`, the taking of the view
and `SPANCOPY.get` with no write between, ViewRead(v, i) is RDATA[i] for every i < N; and after any moves that
do not belong to that unit they agree exactly at the bytes whose value is the same as then (R334). How the host
holds the view is the model's choice (log 13), and what it has seen the model's field (log 15). -/
def Obligations.ViewAgreesWithCopy : Prop :=
  ∀ (s : State) (c : CodecUnit), s.units[s.active]? = some c → c.len ≠ 0 →
    c.offset + c.len ≤ c.bufSize → c.offset < 2 ^ 64 →
    ∃ t t' t'' d bs, exec .spanGet s = .next t ∧ hostTakeView s.active t = .next t' ∧
      exec .spanCopyGet t' = .next t'' ∧ t''.units[s.active]? = some d ∧ d.rdata = some bs ∧
      bs.length = c.len ∧
      ∀ (ms : List Move) (z : State), (∀ m ∈ ms, m.unit? ≠ some s.active) → runMoves ms t'' = .next z →
        z.units[s.active]? = some d ∧
        ∀ i, i < c.len → ∃ z' b, hostViewRead s.views.length i z = .next z' ∧ bs[i]? = some b ∧
          z'.seen = some (.unsigned (z.buf.read (c.offset + i)).toNat) ∧
          (z'.seen = some (.unsigned b.toNat) ↔
            z.buf.read (c.offset + i) = t''.buf.read (c.offset + i))

/-- Each assembled line sets CMD to its row's word and its operands' registers, leaves the other registers as
they are, and issues the command; a `buf` line writes its bytes and no other (R113, R114; log 16). -/
def Obligations.AssembledLines : Prop :=
  (∀ (line : AsmLine) (op : Op) (tok : Token) (s : State) (u : Nat) (c : CodecUnit),
    line.wellFormed = true → line.command? = some (op, tok) → s.units[u]? = some c →
    c.unitState = .idle → c.flight = none →
    (line.operands c).offset < 2 ^ s.params.offsetBits → (line.operands c).len < 2 ^ s.params.offsetBits →
    ∃ i, decode (encodeFields op tok) = .ok i ∧ i.op = op ∧ i.token = tok ∧
      runMoves (line.moves u) s =
        exec i (s.latch u { line.operands c with cmd := encodeFields op tok })) ∧
  ∀ (o : Nat) (bs : List Byte) (s : State) (u : Nat),
    (∀ k, k < bs.length → s.inBuf (o + k) = true) →
    ∃ t, runMoves ((AsmLine.buf o bs).moves u) s = .next t ∧
      (∀ k, k < bs.length → bs[k]? = some (t.buf.read (o + k))) ∧ SameBufOutside o bs.length s t ∧
      t.units = s.units

/-! ### Several units (spec/20_memory.md R79, R80) -/

/-- With several units the byte accesses of a command may be made in any order between its issue and its
response, and with nothing between them that makes no difference: begun, every access made once in whatever
order, and finished, a command leaves the very state its one-step issue leaves; and so does the second step of
a flush (R79, R84, R380). How the accesses interleave is the model's (log 10). -/
def Obligations.SplitInAnyOrder : Prop :=
  (∀ (s : State) (u : Nat) (c : CodecUnit) (ks : List Nat), 1 < s.params.nUnits → Memory.wf s.buf →
    s.units[u]? = some c → c.unitState = .idle → c.flight = none →
    (∀ i, decode c.cmd = .ok i → ks.Perm (List.range (i.token.length c.len))) →
    runMoves (.begin u :: (ks.map fun k => .access u k) ++ [.finish u]) s = issue u s) ∧
  ∀ (s : State) (u : Nat) (c : CodecUnit) (k : FlushContext) (ks : List Nat), 1 < s.params.nUnits →
    Memory.wf s.buf → s.units[u]? = some c → c.ctx = some k → c.resumable = true → c.flight = none →
    ks.Perm (List.range k.bytes.length) →
    runMoves (.resumeSplit u :: (ks.map fun j => .access u j) ++ [.finish u]) s = resume u s

/-- Two units writing windows that share bytes race, byte by byte: whichever of the two is chosen for each
shared byte there is an order of the accesses in which it wins, and in no order does a shared byte end as
anything else. Likewise a unit reading a byte that another writes reads it before or after, whichever is chosen
for each byte, and nothing else. The host's accesses race with a unit's in the same way, through BUF and through
its views: its writes with the unit's writes and reads, and its read of a byte with the unit's write (R80). How the accesses interleave is the model's (log 10). -/
def Obligations.RaceOutcomes : Prop :=
  (∀ (s : State) (u v : Nat) (c d : CodecUnit) (p₁ o₁ p₂ o₂ : Nat) (bs₁ bs₂ : List Byte), u ≠ v →
    s.units[u]? = some c → s.units[v]? = some d →
    c.flight = some (.write p₁ o₁ bs₁ (List.range bs₁.length)) →
    d.flight = some (.write p₂ o₂ bs₂ (List.range bs₂.length)) →
    (∀ choice : Nat → Bool, ∃ ms t, (∀ m ∈ ms, ∃ k, m = .access u k ∨ m = .access v k) ∧
      runMoves ms s = .next t ∧
      t.units[u]? = some { c with flight := some (.write p₁ o₁ bs₁ []) } ∧
      t.units[v]? = some { d with flight := some (.write p₂ o₂ bs₂ []) } ∧
      ∀ j k, j < bs₁.length → k < bs₂.length → p₁ + j = p₂ + k →
        some (t.buf.read (p₁ + j)) = if choice (p₁ + j) then bs₁[j]? else bs₂[k]?) ∧
    ∀ ms t, (∀ m ∈ ms, ∃ k, m = .access u k ∨ m = .access v k) → runMoves ms s = .next t →
      t.units[u]? = some { c with flight := some (.write p₁ o₁ bs₁ []) } →
      t.units[v]? = some { d with flight := some (.write p₂ o₂ bs₂ []) } →
      ∀ j k, j < bs₁.length → k < bs₂.length → p₁ + j = p₂ + k →
        some (t.buf.read (p₁ + j)) = bs₁[j]? ∨ some (t.buf.read (p₁ + j)) = bs₂[k]?) ∧
  (∀ (s : State) (u v : Nat) (c d : CodecUnit) (tok : Token) (o₁ n p₂ o₂ : Nat) (bs₂ : List Byte), u ≠ v →
    s.units[u]? = some c → s.units[v]? = some d →
    c.flight = some (.read tok o₁ (List.replicate n none)) →
    d.flight = some (.write p₂ o₂ bs₂ (List.range bs₂.length)) →
    (∀ choice : Nat → Bool, ∃ ms t got, (∀ m ∈ ms, ∃ k, m = .access u k ∨ m = .access v k) ∧
      runMoves ms s = .next t ∧
      t.units[u]? = some { c with flight := some (.read tok o₁ got) } ∧
      t.units[v]? = some { d with flight := some (.write p₂ o₂ bs₂ []) } ∧
      ∀ j k, j < n → k < bs₂.length → o₁ + j = p₂ + k →
        got[j]? = some (if choice j then some (s.buf.read (o₁ + j)) else bs₂[k]?)) ∧
    ∀ ms t got j k b, (∀ m ∈ ms, ∃ i, m = .access u i ∨ m = .access v i) → runMoves ms s = .next t →
      t.units[u]? = some { c with flight := some (.read tok o₁ got) } →
      j < n → k < bs₂.length → o₁ + j = p₂ + k → got[j]? = some (some b) →
      b = s.buf.read (o₁ + j) ∨ bs₂[k]? = some b) ∧
  (∀ (s : State) (u : Nat) (c : CodecUnit) (p o q : Nat) (bs hs : List Byte) (host : List Move),
    s.units[u]? = some c → c.flight = some (.write p o bs (List.range bs.length)) →
    HostWrites s q hs host →
    (∀ choice : Nat → Bool, ∃ ms t, ms.Perm ((List.range bs.length).map (.access u) ++ host) ∧
      runMoves ms s = .next t ∧
      t.units[u]? = some { c with flight := some (.write p o bs []) } ∧
      ∀ j k, j < bs.length → k < hs.length → p + j = q + k →
        some (t.buf.read (p + j)) = if choice (p + j) then bs[j]? else hs[k]?) ∧
    ∀ ms, ms.Perm ((List.range bs.length).map (.access u) ++ host) → ∃ t, runMoves ms s = .next t ∧
      t.units[u]? = some { c with flight := some (.write p o bs []) } ∧
      ∀ j k, j < bs.length → k < hs.length → p + j = q + k →
        some (t.buf.read (p + j)) = bs[j]? ∨ some (t.buf.read (p + j)) = hs[k]?) ∧
  (∀ (s : State) (u : Nat) (c : CodecUnit) (tok : Token) (o n q : Nat) (hs : List Byte)
    (host : List Move), s.units[u]? = some c → c.flight = some (.read tok o (List.replicate n none)) →
    HostWrites s q hs host →
    (∀ choice : Nat → Bool, ∃ ms t got, ms.Perm ((List.range n).map (.access u) ++ host) ∧
      runMoves ms s = .next t ∧ t.units[u]? = some { c with flight := some (.read tok o got) } ∧
      ∀ j k, j < n → k < hs.length → o + j = q + k →
        got[j]? = some (if choice j then some (s.buf.read (o + j)) else hs[k]?)) ∧
    ∀ ms, ms.Perm ((List.range n).map (.access u) ++ host) → ∃ t got, runMoves ms s = .next t ∧
      t.units[u]? = some { c with flight := some (.read tok o got) } ∧
      ∀ j k, j < n → k < hs.length → o + j = q + k →
        got[j]? = some (some (s.buf.read (o + j))) ∨ got[j]? = some hs[k]?) ∧
  ∀ (s : State) (u : Nat) (c : CodecUnit) (p o j : Nat) (bs : List Byte) (b : Byte) (m : Move),
    s.units[u]? = some c → c.flight = some (.write p o bs (List.range bs.length)) → bs[j]? = some b →
    HostReadsByte s (p + j) m →
    (∃ t, runMoves [m] s = .next t ∧ t.seen = some (.unsigned (s.buf.read (p + j)).toNat)) ∧
    (∃ t, runMoves [.access u j, m] s = .next t ∧ t.seen = some (.unsigned b.toNat)) ∧
    ∀ ms, (∀ x ∈ ms, ∃ k, x = .access u k) → ∃ t, runMoves (ms ++ [m]) s = .next t ∧
      (t.seen = some (.unsigned (s.buf.read (p + j)).toNat) ∨ t.seen = some (.unsigned b.toNat))
end

