-- ==== Sys2Proof/Laws/State.lean ====
section
/-! SUPPORT. One lemma per field per update of the state and of a unit, true by unfolding the one update, so
that no proof unfolds a record update. -/

namespace Sys2Proof.Machine

/-! ### Updates of the state -/

@[simp] theorem State.setUnit_params (s : State) (u : Nat) (c : CodecUnit) :
    (s.setUnit u c).params = s.params := rfl

@[simp] theorem State.setUnit_units (s : State) (u : Nat) (c : CodecUnit) :
    (s.setUnit u c).units = s.units.set u c := rfl

@[simp] theorem State.setUnit_buf (s : State) (u : Nat) (c : CodecUnit) :
    (s.setUnit u c).buf = s.buf := rfl

@[simp] theorem State.setUnit_views (s : State) (u : Nat) (c : CodecUnit) :
    (s.setUnit u c).views = s.views := rfl

@[simp] theorem State.setUnit_sched (s : State) (u : Nat) (c : CodecUnit) :
    (s.setUnit u c).sched = s.sched := rfl

@[simp] theorem State.setUnit_active (s : State) (u : Nat) (c : CodecUnit) :
    (s.setUnit u c).active = s.active := rfl

@[simp] theorem State.setUnit_seen (s : State) (u : Nat) (c : CodecUnit) :
    (s.setUnit u c).seen = s.seen := rfl

@[simp] theorem State.setBuf_params (s : State) (m : Memory) : (s.setBuf m).params = s.params := rfl

@[simp] theorem State.setBuf_units (s : State) (m : Memory) : (s.setBuf m).units = s.units := rfl

@[simp] theorem State.setBuf_buf (s : State) (m : Memory) : (s.setBuf m).buf = m := rfl

@[simp] theorem State.setBuf_views (s : State) (m : Memory) : (s.setBuf m).views = s.views := rfl

@[simp] theorem State.setBuf_sched (s : State) (m : Memory) : (s.setBuf m).sched = s.sched := rfl

@[simp] theorem State.setBuf_active (s : State) (m : Memory) : (s.setBuf m).active = s.active := rfl

@[simp] theorem State.setBuf_seen (s : State) (m : Memory) : (s.setBuf m).seen = s.seen := rfl

@[simp] theorem State.latch_params (s : State) (u : Nat) (c : CodecUnit) :
    (s.latch u c).params = s.params := rfl

@[simp] theorem State.latch_units (s : State) (u : Nat) (c : CodecUnit) :
    (s.latch u c).units = s.units.set u { c with flushAck := false } := rfl

@[simp] theorem State.latch_buf (s : State) (u : Nat) (c : CodecUnit) :
    (s.latch u c).buf = s.buf := rfl

@[simp] theorem State.latch_views (s : State) (u : Nat) (c : CodecUnit) :
    (s.latch u c).views = s.views := rfl

@[simp] theorem State.latch_sched (s : State) (u : Nat) (c : CodecUnit) :
    (s.latch u c).sched = s.sched := rfl

@[simp] theorem State.latch_active (s : State) (u : Nat) (c : CodecUnit) :
    (s.latch u c).active = u := rfl

@[simp] theorem State.latch_seen (s : State) (u : Nat) (c : CodecUnit) :
    (s.latch u c).seen = s.seen := rfl

/-! ### Updates of a unit -/

@[simp] theorem CodecUnit.markAbsent_cmd (c : CodecUnit) : c.markAbsent.cmd = c.cmd := rfl

@[simp] theorem CodecUnit.markAbsent_offset (c : CodecUnit) : c.markAbsent.offset = c.offset := rfl

@[simp] theorem CodecUnit.markAbsent_len (c : CodecUnit) : c.markAbsent.len = c.len := rfl

@[simp] theorem CodecUnit.markAbsent_value (c : CodecUnit) : c.markAbsent.value = c.value := rfl

@[simp] theorem CodecUnit.markAbsent_bufSize (c : CodecUnit) : c.markAbsent.bufSize = c.bufSize := rfl

@[simp] theorem CodecUnit.markAbsent_flushCb (c : CodecUnit) : c.markAbsent.flushCb = c.flushCb := rfl

@[simp] theorem CodecUnit.markAbsent_status (c : CodecUnit) : c.markAbsent.status = c.status := rfl

@[simp] theorem CodecUnit.markAbsent_rtag (c : CodecUnit) : c.markAbsent.rtag = none := rfl

@[simp] theorem CodecUnit.markAbsent_result (c : CodecUnit) : c.markAbsent.result = none := rfl

@[simp] theorem CodecUnit.markAbsent_rlen (c : CodecUnit) : c.markAbsent.rlen = none := rfl

@[simp] theorem CodecUnit.markAbsent_rdata (c : CodecUnit) : c.markAbsent.rdata = none := rfl

@[simp] theorem CodecUnit.markAbsent_next (c : CodecUnit) : c.markAbsent.next = none := rfl

@[simp] theorem CodecUnit.markAbsent_delta (c : CodecUnit) : c.markAbsent.delta = none := rfl

@[simp] theorem CodecUnit.markAbsent_unitState (c : CodecUnit) : c.markAbsent.unitState = c.unitState := rfl

@[simp] theorem CodecUnit.markAbsent_flushReq (c : CodecUnit) : c.markAbsent.flushReq = c.flushReq := rfl

@[simp] theorem CodecUnit.markAbsent_flushOff (c : CodecUnit) : c.markAbsent.flushOff = c.flushOff := rfl

@[simp] theorem CodecUnit.markAbsent_flushAck (c : CodecUnit) : c.markAbsent.flushAck = c.flushAck := rfl

@[simp] theorem CodecUnit.markAbsent_ctx (c : CodecUnit) : c.markAbsent.ctx = c.ctx := rfl

@[simp] theorem CodecUnit.markAbsent_flight (c : CodecUnit) : c.markAbsent.flight = c.flight := rfl

@[simp] theorem CodecUnit.respond_cmd (c : CodecUnit) (r : Response) :
    (c.respond r).cmd = c.cmd := rfl

@[simp] theorem CodecUnit.respond_offset (c : CodecUnit) (r : Response) :
    (c.respond r).offset = c.offset := rfl

@[simp] theorem CodecUnit.respond_len (c : CodecUnit) (r : Response) :
    (c.respond r).len = c.len := rfl

@[simp] theorem CodecUnit.respond_value (c : CodecUnit) (r : Response) :
    (c.respond r).value = c.value := rfl

@[simp] theorem CodecUnit.respond_bufSize (c : CodecUnit) (r : Response) :
    (c.respond r).bufSize = c.bufSize := rfl

@[simp] theorem CodecUnit.respond_flushCb (c : CodecUnit) (r : Response) :
    (c.respond r).flushCb = c.flushCb := rfl

@[simp] theorem CodecUnit.respond_status (c : CodecUnit) (r : Response) :
    (c.respond r).status = .ok := rfl

@[simp] theorem CodecUnit.respond_rtag (c : CodecUnit) (r : Response) :
    (c.respond r).rtag = some r.rtag := rfl

@[simp] theorem CodecUnit.respond_result (c : CodecUnit) (r : Response) :
    (c.respond r).result = r.result := rfl

@[simp] theorem CodecUnit.respond_rlen (c : CodecUnit) (r : Response) :
    (c.respond r).rlen = r.rlen := rfl

@[simp] theorem CodecUnit.respond_rdata (c : CodecUnit) (r : Response) :
    (c.respond r).rdata = r.rdata := rfl

@[simp] theorem CodecUnit.respond_next (c : CodecUnit) (r : Response) :
    (c.respond r).next = r.next := rfl

@[simp] theorem CodecUnit.respond_delta (c : CodecUnit) (r : Response) :
    (c.respond r).delta = r.delta := rfl

@[simp] theorem CodecUnit.respond_unitState (c : CodecUnit) (r : Response) :
    (c.respond r).unitState = .idle := rfl

@[simp] theorem CodecUnit.respond_flushReq (c : CodecUnit) (r : Response) :
    (c.respond r).flushReq = false := rfl

@[simp] theorem CodecUnit.respond_flushOff (c : CodecUnit) (r : Response) :
    (c.respond r).flushOff = c.flushOff := rfl

@[simp] theorem CodecUnit.respond_flushAck (c : CodecUnit) (r : Response) :
    (c.respond r).flushAck = c.flushAck := rfl

@[simp] theorem CodecUnit.respond_ctx (c : CodecUnit) (r : Response) :
    (c.respond r).ctx = c.ctx := rfl

@[simp] theorem CodecUnit.respond_flight (c : CodecUnit) (r : Response) :
    (c.respond r).flight = c.flight := rfl

@[simp] theorem CodecUnit.raise_cmd (c : CodecUnit) (e : Status) :
    (c.raise e).cmd = c.cmd := rfl

@[simp] theorem CodecUnit.raise_offset (c : CodecUnit) (e : Status) :
    (c.raise e).offset = c.offset := rfl

@[simp] theorem CodecUnit.raise_len (c : CodecUnit) (e : Status) :
    (c.raise e).len = c.len := rfl

@[simp] theorem CodecUnit.raise_value (c : CodecUnit) (e : Status) :
    (c.raise e).value = c.value := rfl

@[simp] theorem CodecUnit.raise_bufSize (c : CodecUnit) (e : Status) :
    (c.raise e).bufSize = c.bufSize := rfl

@[simp] theorem CodecUnit.raise_flushCb (c : CodecUnit) (e : Status) :
    (c.raise e).flushCb = c.flushCb := rfl

@[simp] theorem CodecUnit.raise_status (c : CodecUnit) (e : Status) :
    (c.raise e).status = e := rfl

@[simp] theorem CodecUnit.raise_rtag (c : CodecUnit) (e : Status) :
    (c.raise e).rtag = some .noValue := rfl

@[simp] theorem CodecUnit.raise_result (c : CodecUnit) (e : Status) :
    (c.raise e).result = none := rfl

@[simp] theorem CodecUnit.raise_rlen (c : CodecUnit) (e : Status) :
    (c.raise e).rlen = none := rfl

@[simp] theorem CodecUnit.raise_rdata (c : CodecUnit) (e : Status) :
    (c.raise e).rdata = none := rfl

@[simp] theorem CodecUnit.raise_next (c : CodecUnit) (e : Status) :
    (c.raise e).next = none := rfl

@[simp] theorem CodecUnit.raise_delta (c : CodecUnit) (e : Status) :
    (c.raise e).delta = none := rfl

@[simp] theorem CodecUnit.raise_unitState (c : CodecUnit) (e : Status) :
    (c.raise e).unitState = .idle := rfl

@[simp] theorem CodecUnit.raise_flushReq (c : CodecUnit) (e : Status) :
    (c.raise e).flushReq = false := rfl

@[simp] theorem CodecUnit.raise_flushOff (c : CodecUnit) (e : Status) :
    (c.raise e).flushOff = c.flushOff := rfl

@[simp] theorem CodecUnit.raise_flushAck (c : CodecUnit) (e : Status) :
    (c.raise e).flushAck = false := rfl

@[simp] theorem CodecUnit.raise_ctx (c : CodecUnit) (e : Status) :
    (c.raise e).ctx = c.ctx := rfl

@[simp] theorem CodecUnit.raise_flight (c : CodecUnit) (e : Status) :
    (c.raise e).flight = c.flight := rfl

@[simp] theorem CodecUnit.requestFlush_cmd (c : CodecUnit) (k : FlushContext) :
    (c.requestFlush k).cmd = c.cmd := rfl

@[simp] theorem CodecUnit.requestFlush_offset (c : CodecUnit) (k : FlushContext) :
    (c.requestFlush k).offset = c.offset := rfl

@[simp] theorem CodecUnit.requestFlush_len (c : CodecUnit) (k : FlushContext) :
    (c.requestFlush k).len = c.len := rfl

@[simp] theorem CodecUnit.requestFlush_value (c : CodecUnit) (k : FlushContext) :
    (c.requestFlush k).value = c.value := rfl

@[simp] theorem CodecUnit.requestFlush_bufSize (c : CodecUnit) (k : FlushContext) :
    (c.requestFlush k).bufSize = c.bufSize := rfl

@[simp] theorem CodecUnit.requestFlush_flushCb (c : CodecUnit) (k : FlushContext) :
    (c.requestFlush k).flushCb = c.flushCb := rfl

@[simp] theorem CodecUnit.requestFlush_status (c : CodecUnit) (k : FlushContext) :
    (c.requestFlush k).status = c.status := rfl

@[simp] theorem CodecUnit.requestFlush_rtag (c : CodecUnit) (k : FlushContext) :
    (c.requestFlush k).rtag = none := rfl

@[simp] theorem CodecUnit.requestFlush_result (c : CodecUnit) (k : FlushContext) :
    (c.requestFlush k).result = none := rfl

@[simp] theorem CodecUnit.requestFlush_rlen (c : CodecUnit) (k : FlushContext) :
    (c.requestFlush k).rlen = none := rfl

@[simp] theorem CodecUnit.requestFlush_rdata (c : CodecUnit) (k : FlushContext) :
    (c.requestFlush k).rdata = none := rfl

@[simp] theorem CodecUnit.requestFlush_next (c : CodecUnit) (k : FlushContext) :
    (c.requestFlush k).next = none := rfl

@[simp] theorem CodecUnit.requestFlush_delta (c : CodecUnit) (k : FlushContext) :
    (c.requestFlush k).delta = none := rfl

@[simp] theorem CodecUnit.requestFlush_unitState (c : CodecUnit) (k : FlushContext) :
    (c.requestFlush k).unitState = .flushWait := rfl

@[simp] theorem CodecUnit.requestFlush_flushReq (c : CodecUnit) (k : FlushContext) :
    (c.requestFlush k).flushReq = true := rfl

@[simp] theorem CodecUnit.requestFlush_flushOff (c : CodecUnit) (k : FlushContext) :
    (c.requestFlush k).flushOff = some k.offset := rfl

@[simp] theorem CodecUnit.requestFlush_flushAck (c : CodecUnit) (k : FlushContext) :
    (c.requestFlush k).flushAck = c.flushAck := rfl

@[simp] theorem CodecUnit.requestFlush_ctx (c : CodecUnit) (k : FlushContext) :
    (c.requestFlush k).ctx = some k := rfl

@[simp] theorem CodecUnit.requestFlush_flight (c : CodecUnit) (k : FlushContext) :
    (c.requestFlush k).flight = c.flight := rfl

@[simp] theorem CodecUnit.leaveFlush_cmd (c : CodecUnit) : c.leaveFlush.cmd = c.cmd := rfl

@[simp] theorem CodecUnit.leaveFlush_offset (c : CodecUnit) : c.leaveFlush.offset = c.offset := rfl

@[simp] theorem CodecUnit.leaveFlush_len (c : CodecUnit) : c.leaveFlush.len = c.len := rfl

@[simp] theorem CodecUnit.leaveFlush_value (c : CodecUnit) : c.leaveFlush.value = c.value := rfl

@[simp] theorem CodecUnit.leaveFlush_bufSize (c : CodecUnit) : c.leaveFlush.bufSize = c.bufSize := rfl

@[simp] theorem CodecUnit.leaveFlush_flushCb (c : CodecUnit) : c.leaveFlush.flushCb = c.flushCb := rfl

@[simp] theorem CodecUnit.leaveFlush_status (c : CodecUnit) : c.leaveFlush.status = c.status := rfl

@[simp] theorem CodecUnit.leaveFlush_rtag (c : CodecUnit) : c.leaveFlush.rtag = c.rtag := rfl

@[simp] theorem CodecUnit.leaveFlush_result (c : CodecUnit) : c.leaveFlush.result = c.result := rfl

@[simp] theorem CodecUnit.leaveFlush_rlen (c : CodecUnit) : c.leaveFlush.rlen = c.rlen := rfl

@[simp] theorem CodecUnit.leaveFlush_rdata (c : CodecUnit) : c.leaveFlush.rdata = c.rdata := rfl

@[simp] theorem CodecUnit.leaveFlush_next (c : CodecUnit) : c.leaveFlush.next = c.next := rfl

@[simp] theorem CodecUnit.leaveFlush_delta (c : CodecUnit) : c.leaveFlush.delta = c.delta := rfl

@[simp] theorem CodecUnit.leaveFlush_unitState (c : CodecUnit) : c.leaveFlush.unitState = .idle := rfl

@[simp] theorem CodecUnit.leaveFlush_flushReq (c : CodecUnit) : c.leaveFlush.flushReq = false := rfl

@[simp] theorem CodecUnit.leaveFlush_flushOff (c : CodecUnit) : c.leaveFlush.flushOff = none := rfl

@[simp] theorem CodecUnit.leaveFlush_flushAck (c : CodecUnit) : c.leaveFlush.flushAck = false := rfl

@[simp] theorem CodecUnit.leaveFlush_ctx (c : CodecUnit) : c.leaveFlush.ctx = none := rfl

@[simp] theorem CodecUnit.leaveFlush_flight (c : CodecUnit) : c.leaveFlush.flight = c.flight := rfl

/-! ### A register write, one register at a time -/

@[simp] theorem CodecUnit.write_cmd (c : CodecUnit) (v : CommandWord) :
    c.write (.cmd v) = { c with cmd := v } := rfl

@[simp] theorem CodecUnit.write_offset (c : CodecUnit) (v : Nat) :
    c.write (.offset v) = { c with offset := v } := rfl

@[simp] theorem CodecUnit.write_len (c : CodecUnit) (v : Nat) :
    c.write (.len v) = { c with len := v } := rfl

@[simp] theorem CodecUnit.write_value (c : CodecUnit) (v : ValueWord) :
    c.write (.value v) = { c with value := v } := rfl

@[simp] theorem CodecUnit.write_bufSize (c : CodecUnit) (v : Nat) :
    c.write (.bufSize v) = { c with bufSize := v } := rfl

@[simp] theorem CodecUnit.write_flushCb (c : CodecUnit) (v : Bool) :
    c.write (.flushCb v) = { c with flushCb := v } := rfl

@[simp] theorem CodecUnit.write_flushAck (c : CodecUnit) (v : Bool) :
    c.write (.flushAck v) = { c with flushAck := v } := rfl

/-! ### Looking a unit up after an update -/

@[simp] theorem State.setUnit_same (s : State) (u : Nat) (c d : CodecUnit) (h : s.units[u]? = some d) :
    (s.setUnit u c).units[u]? = some c := by
  have := (List.getElem?_eq_some_iff.mp h).1
  simp [this]

@[simp] theorem State.setUnit_other (s : State) (u v : Nat) (c : CodecUnit) (h : v ≠ u) :
    (s.setUnit u c).units[v]? = s.units[v]? := by
  simp [Ne.symm h]

@[simp] theorem State.setUnit_length (s : State) (u : Nat) (c : CodecUnit) :
    (s.setUnit u c).units.length = s.units.length := by simp

/-- Where `exec` finds the unit whose command `issue` has latched. -/
theorem State.latch_active_unit (s : State) (u : Nat) (c : CodecUnit) (h : s.units[u]? = some c) :
    (s.latch u c).units[(s.latch u c).active]? = some { c with flushAck := false } := by
  have := (List.getElem?_eq_some_iff.mp h).1
  simp [this]

/-- A unit of the state after an update is the new one or one of the old ones. -/
theorem State.mem_setUnit (s : State) (u : Nat) (c d : CodecUnit) (h : d ∈ (s.setUnit u c).units) :
    d = c ∨ d ∈ s.units := (List.mem_or_eq_of_mem_set h).symm

end Sys2Proof.Machine
end

