-- ==== Sys2Proof/Laws/Command.lean ====
section
/-! SUPPORT. What the execution of one command can do (spec/40_contract.md R131), said once for each shared
operation. -/

namespace Sys2Proof

/-! ### Lengths of byte lists (00_scope.md R13) -/

@[simp] theorem length_splitLE (w n : Nat) : (splitLE w n).length = n := by
  induction n generalizing w with
  | zero => rfl
  | succ n ih => simp [splitLE, ih]

@[simp] theorem length_splitBE (w n : Nat) : (splitBE w n).length = n := by simp [splitBE]

@[simp] theorem length_split (order : ByteOrder) (w n : Nat) : (split order w n).length = n := by
  cases order <;> simp [split]

namespace Machine

/-! ### Every instruction is its plan, carried out -/

/-- Every meaning, at once: the active unit carries out the plan of the instruction's operation and token. -/
theorem exec_eq_perform (i : Instr) (s : State) : exec i s = s.perform (planOf s.params.layout i) := by
  cases i <;> rfl

/-- On a unit that exists a command always gives a next state. -/
theorem State.perform_of_unit (s : State) (p : CodecUnit → Plan) (c : CodecUnit)
    (h : s.units[s.active]? = some c) : s.perform p = .next (s.carryOut s.active c (p c)) := by
  simp [State.perform, h]

/-- What a command that gives a next state has done. -/
theorem State.perform_next (s t : State) (p : CodecUnit → Plan) (h : s.perform p = .next t) :
    ∃ c, s.units[s.active]? = some c ∧ t = s.carryOut s.active c (p c) := by
  unfold State.perform at h
  split at h
  · cases h
  · next c hc => cases h; exact ⟨c, hc, rfl⟩

/-- Why a command gives no next state: there is no such unit. -/
theorem State.perform_refused (s : State) (p : CodecUnit → Plan) (h : s.units[s.active]? = none) :
    s.perform p = .refused .noSuchUnit := by
  simp [State.perform, h]

/-! ### The bytes of an encode -/

/-- An encode has as many bytes as its token is long, and a token that takes LEN has none. -/
theorem encodeBytes_ok (layout : Float80Layout) (tok : Token) (v : ValueWord) (bs : List Byte) (len : Nat)
    (h : encodeBytes layout tok v = .ok bs) : tok.usesLen = false ∧ bs.length = tok.length len := by
  cases tok with
  | int sg w order =>
    simp only [encodeBytes, intEncode] at h
    split at h
    · cases h
    · cases h; exact ⟨rfl, by simp [Token.length]⟩
  | float f order => cases h; exact ⟨rfl, by simp [Token.length]⟩
  | span => cases h
  | spanCopy => cases h
  | ignore => cases h

/-- The errors of an encode: OUT_OF_RANGE, and ILLEGAL_COMMAND for a token without one. -/
theorem encodeBytes_error (layout : Float80Layout) (tok : Token) (v : ValueWord) (e : Status)
    (h : encodeBytes layout tok v = .error e) : e = .outOfRange ∨ e = .illegalCommand := by
  cases tok with
  | int sg w order =>
    simp only [encodeBytes, intEncode] at h
    split at h
    · cases h; exact .inl rfl
    · cases h
  | float f order => cases h
  | span => cases h; exact .inr rfl
  | spanCopy => cases h; exact .inr rfl
  | ignore => cases h; exact .inr rfl

/-! ### What a plan can be -/

/-- What a `get` decides. -/
theorem getPlan_cases (layout : Float80Layout) (tok : Token) (c : CodecUnit) :
    (tok.usesLen = true ∧ c.len = 0 ∧ getPlan layout tok c = .fail .illegalCommand) ∨
    ((tok.usesLen = true → c.len ≠ 0) ∧
      ((c.bufSize < c.offset + tok.length c.len ∧ getPlan layout tok c = .fail .outOfBounds) ∨
      (c.offset + tok.length c.len ≤ c.bufSize ∧
        ((tok.readsWindow = true ∧ getPlan layout tok c = .read tok c.offset (tok.length c.len)) ∨
        (tok.readsWindow = false ∧
          getPlan layout tok c = .now (getResponse layout tok c.offset (tok.length c.len) [])))))) := by
  unfold getPlan
  by_cases h₁ : tok.usesLen = true ∧ c.len = 0
  · exact .inl ⟨h₁.1, h₁.2, by simp [h₁]⟩
  · refine .inr ⟨fun h h0 => h₁ ⟨h, h0⟩, ?_⟩
    have h₁' : (tok.usesLen && c.len == 0) = false := by simpa using h₁
    by_cases h₂ : c.offset + tok.length c.len ≤ c.bufSize
    · refine .inr ⟨h₂, ?_⟩
      cases h₃ : tok.readsWindow <;> simp [h₁', fits, h₂]
    · exact .inl ⟨by omega, by simp [h₁', fits, h₂]⟩

/-- What a `put` decides. -/
theorem putPlan_cases (layout : Float80Layout) (tok : Token) (c : CodecUnit) :
    (∃ e, encodeBytes layout tok c.value = .error e ∧ putPlan layout tok c = .fail e) ∨
    (∃ bs, encodeBytes layout tok c.value = .ok bs ∧ bs.length = tok.length c.len ∧
      ((c.offset + bs.length ≤ c.bufSize ∧ putPlan layout tok c = .write c.offset c.offset bs) ∨
      (c.bufSize < c.offset + bs.length ∧ putPlan layout tok c = .fail .outOfBounds))) := by
  unfold putPlan
  split
  · next e h => exact .inl ⟨e, h, rfl⟩
  · next bs h =>
    have hl := (encodeBytes_ok layout tok _ bs c.len h).2
    refine .inr ⟨bs, h, hl, ?_⟩
    by_cases h₂ : c.offset + bs.length ≤ c.bufSize
    · exact .inl ⟨h₂, by simp [fits, ← hl, h₂]⟩
    · exact .inr ⟨by omega, by simp [fits, ← hl, h₂]⟩

/-- What a `putf` decides. -/
theorem putfPlan_cases (layout : Float80Layout) (tok : Token) (c : CodecUnit) :
    (∃ e, encodeBytes layout tok c.value = .error e ∧ putfPlan layout tok c = .fail e) ∨
    (∃ bs, encodeBytes layout tok c.value = .ok bs ∧ bs.length = tok.length c.len ∧
      ((c.offset + bs.length ≤ c.bufSize ∧ putfPlan layout tok c = .write c.offset c.offset bs) ∨
      (c.bufSize < c.offset + bs.length ∧ c.flushCb = true ∧
        putfPlan layout tok c =
          .flush { tok := tok, offset := c.offset, bytes := bs, bufSize := c.bufSize }) ∨
      (c.bufSize < c.offset + bs.length ∧ c.flushCb = false ∧
        putfPlan layout tok c = .fail .noFlushCallback))) := by
  unfold putfPlan
  split
  · next e h => exact .inl ⟨e, h, rfl⟩
  · next bs h =>
    have hl := (encodeBytes_ok layout tok _ bs c.len h).2
    refine .inr ⟨bs, h, hl, ?_⟩
    by_cases h₂ : c.offset + bs.length ≤ c.bufSize
    · exact .inl ⟨h₂, by simp [fits, ← hl, h₂]⟩
    · refine .inr ?_
      cases h₃ : c.flushCb
      · exact .inr ⟨by omega, rfl, by simp [fits, ← hl, h₂]⟩
      · exact .inl ⟨by omega, rfl, by simp [fits, ← hl, h₂]⟩

/-- What a LENGTH decides. -/
theorem lengthPlan_cases (tok : Token) (c : CodecUnit) :
    (tok.wellFormed = true ∧ (tok.usesLen = true → c.len ≠ 0) ∧
      lengthPlan tok c = .now { rtag := .length, rlen := some (tok.length c.len) }) ∨
    ((tok.wellFormed = false ∨ tok.usesLen = true ∧ c.len = 0) ∧ lengthPlan tok c = .fail .illegalCommand) := by
  unfold lengthPlan
  cases h₁ : tok.wellFormed
  · exact .inr ⟨.inl rfl, by simp⟩
  · by_cases h₂ : tok.usesLen = true ∧ c.len = 0
    · exact .inr ⟨.inr h₂, by simp [h₂]⟩
    · have h₂' : (tok.usesLen && c.len == 0) = false := by simpa using h₂
      exact .inl ⟨rfl, fun h h0 => h₂ ⟨h, h0⟩, by simp [h₂']⟩

/-- What a waiting `putf` decides once it is acknowledged. -/
theorem flushPlan_cases (k : FlushContext) :
    (k.bytes.length ≤ k.bufSize ∧ flushPlan k = .write 0 k.offset k.bytes) ∨
    (k.bufSize < k.bytes.length ∧ flushPlan k = .fail .flushNoRoom) := by
  unfold flushPlan
  by_cases h : k.bytes.length ≤ k.bufSize
  · exact .inl ⟨h, by simp [fits, h]⟩
  · exact .inr ⟨by omega, by simp [fits, h]⟩

/-! ### What carrying a plan out changes -/

@[simp] theorem State.carryOut_params (s : State) (u : Nat) (c : CodecUnit) (p : Plan) :
    (s.carryOut u c p).params = s.params := by cases p <;> rfl

@[simp] theorem State.carryOut_views (s : State) (u : Nat) (c : CodecUnit) (p : Plan) :
    (s.carryOut u c p).views = s.views := by cases p <;> rfl

@[simp] theorem State.carryOut_sched (s : State) (u : Nat) (c : CodecUnit) (p : Plan) :
    (s.carryOut u c p).sched = s.sched := by cases p <;> rfl

@[simp] theorem State.carryOut_active (s : State) (u : Nat) (c : CodecUnit) (p : Plan) :
    (s.carryOut u c p).active = s.active := by cases p <;> rfl

@[simp] theorem State.carryOut_seen (s : State) (u : Nat) (c : CodecUnit) (p : Plan) :
    (s.carryOut u c p).seen = s.seen := by cases p <;> rfl

/-- The unit a plan leaves. -/
def Plan.unitAfter (s : State) (c : CodecUnit) : Plan → CodecUnit
  | .fail e => c.raise e
  | .now r => c.respond r
  | .read tok o n => c.respond (getResponse s.params.layout tok o n (s.buf.readBytes o n))
  | .write base o bs => c.respond (encodeResponse base bs.length o)
  | .flush k => c.requestFlush k

/-- The buffer a plan leaves: only a write changes it. -/
def Plan.bufAfter (m : Memory) : Plan → Memory
  | .fail _ => m
  | .now _ => m
  | .read _ _ _ => m
  | .write base _ bs => m.writeBytes base bs
  | .flush _ => m

theorem State.carryOut_units (s : State) (u : Nat) (c : CodecUnit) (p : Plan) :
    (s.carryOut u c p).units = s.units.set u (p.unitAfter s c) := by cases p <;> rfl

theorem State.carryOut_buf (s : State) (u : Nat) (c : CodecUnit) (p : Plan) :
    (s.carryOut u c p).buf = p.bufAfter s.buf := by cases p <;> rfl

/-- The unit that ran the plan, afterwards. -/
theorem State.carryOut_unit (s : State) (u : Nat) (c d : CodecUnit) (p : Plan) (h : s.units[u]? = some d) :
    (s.carryOut u c p).units[u]? = some (p.unitAfter s c) := by
  have := (List.getElem?_eq_some_iff.mp h).1
  simp [State.carryOut_units, this]

/-- Every other unit stays as it is. -/
theorem State.carryOut_other (s : State) (u v : Nat) (c : CodecUnit) (p : Plan) (h : v ≠ u) :
    (s.carryOut u c p).units[v]? = s.units[v]? := by
  simp [State.carryOut_units, Ne.symm h]

end Machine

end Sys2Proof
end

