-- ==== Sys2Proof/Laws/Memory.lean ====
section
/-! SUPPORT. BUF: every operation keeps the canonical form, a read after a write gives what was written, and a
write leaves every other address alone (spec/00_scope.md R12). -/

namespace Sys2Proof.Machine

/-! ### Cells -/

theorem Memory.cell?_cons (a : Nat) (b : Byte) (m : Memory) (x : Nat) :
    Memory.cell? ((a, b) :: m) x = if x = a then some b else m.cell? x := rfl

/-- In canonical form no cell lies below the first. -/
theorem Memory.cell?_lt (a : Nat) (b : Byte) (m : Memory) (h : Memory.wf ((a, b) :: m)) (x : Nat)
    (hx : x < a) : m.cell? x = none := by
  induction m with
  | nil => rfl
  | cons p m ih =>
    obtain ⟨c, d⟩ := p
    simp only [Memory.wf, List.pairwise_cons, List.mem_cons, forall_eq_or_imp] at h
    rw [cell?_cons, if_neg (by have := h.1.1; omega)]
    exact ih (List.pairwise_cons.mpr ⟨h.1.2, h.2.2⟩)

/-- The cells after a write. -/
theorem Memory.cell?_write (m : Memory) (x : Nat) (v : Byte) (y : Nat) :
    (m.write x v).cell? y = if y = x then some v else m.cell? y := by
  induction m with
  | nil => rfl
  | cons p m ih =>
    obtain ⟨a, b⟩ := p
    simp only [Memory.write]
    split
    · rfl
    · split
      · next h => subst h; simp only [cell?_cons]; split <;> rfl
      · next h => simp only [cell?_cons, ih]; split <;> [split <;> [omega; rfl]; rfl]

/-! ### The canonical form is kept -/

theorem Memory.mem_write (m : Memory) (x : Nat) (v : Byte) (p : Host.Cell) (h : p ∈ m.write x v) :
    p = (x, v) ∨ p ∈ m := by
  induction m with
  | nil => simpa [Memory.write] using h
  | cons q m ih =>
    obtain ⟨a, b⟩ := q
    simp only [Memory.write] at h
    split at h
    · simpa using h
    · split at h <;> rcases List.mem_cons.mp h with h | h
      · exact .inl h
      · exact .inr (List.mem_cons_of_mem _ h)
      · exact .inr (h ▸ List.mem_cons_self)
      · exact (ih h).imp_right (List.mem_cons_of_mem _)

theorem Memory.wf_write (m : Memory) (x : Nat) (v : Byte) (h : m.wf) : (m.write x v).wf := by
  induction m with
  | nil => simp [Memory.write]
  | cons q m ih =>
    obtain ⟨a, b⟩ := q
    obtain ⟨h1, h2⟩ := List.pairwise_cons.mp h
    simp only [Memory.write]
    split
    · next hx =>
      refine List.pairwise_cons.mpr ⟨fun p hp => ?_, h⟩
      rcases List.mem_cons.mp hp with rfl | hp
      · exact hx
      · exact lt_trans hx (h1 p hp)
    · split
      · next hx => exact List.pairwise_cons.mpr ⟨fun p hp => hx ▸ h1 p hp, h2⟩
      · next hx hne =>
        refine List.pairwise_cons.mpr ⟨fun p hp => ?_, ih h2⟩
        rcases Memory.mem_write m x v p hp with rfl | hp
        · show a < x; omega
        · exact h1 p hp

theorem Memory.wf_writeBytes (m : Memory) (a : Nat) (bs : List Byte) (h : m.wf) : (m.writeBytes a bs).wf := by
  induction bs generalizing m a with
  | nil => exact h
  | cons b bs ih => exact ih _ _ (m.wf_write a b h)

/-- The memory of the reset state is in canonical form. -/
theorem State.reset_buf_wf : Memory.wf State.reset.buf := List.Pairwise.nil

/-! ### Reads after writes -/

/-- Every read after a one-byte write. -/
theorem Memory.read_write (m : Memory) (x : Nat) (v : Byte) (y : Nat) :
    (m.write x v).read y = if y = x then v else m.read y := by
  simp only [Memory.read, cell?_write]
  by_cases h : y = x <;> simp [h]

@[simp] theorem Memory.read_write_same (m : Memory) (x : Nat) (v : Byte) : (m.write x v).read x = v := by
  simp [read_write]

@[simp] theorem Memory.read_write_other (m : Memory) (x : Nat) (v : Byte) (y : Nat) (h : y ≠ x) :
    (m.write x v).read y = m.read y := by
  simp [read_write, h]

@[simp] theorem Memory.length_readBytes (m : Memory) (a n : Nat) : (m.readBytes a n).length = n := by
  simp [Memory.readBytes]

/-- Byte k of `MemRead(a, n)`. -/
theorem Memory.getElem?_readBytes (m : Memory) (a n k : Nat) (h : k < n) :
    (m.readBytes a n)[k]? = some (m.read (a + k)) := by
  simp [Memory.readBytes, List.getElem?_range h]

/-- `MemRead` looks at nothing but the bytes of its window. -/
theorem Memory.readBytes_congr (m₁ m₂ : Memory) (a n : Nat)
    (h : ∀ k, k < n → m₁.read (a + k) = m₂.read (a + k)) : m₁.readBytes a n = m₂.readBytes a n := by
  apply List.ext_getElem?
  intro k
  by_cases hk : k < n
  · rw [getElem?_readBytes _ _ _ _ hk, getElem?_readBytes _ _ _ _ hk, h k hk]
  · rw [List.getElem?_eq_none (by simp; omega), List.getElem?_eq_none (by simp; omega)]

/-- A memory in canonical form is its cells: two with the same cells are equal. -/
theorem Memory.ext_cells (m₁ m₂ : Memory) (h₁ : m₁.wf) (h₂ : m₂.wf) (h : ∀ x, m₁.cell? x = m₂.cell? x) :
    m₁ = m₂ := by
  induction m₁ generalizing m₂ with
  | nil =>
    cases m₂ with
    | nil => rfl
    | cons q m₂ => obtain ⟨a, b⟩ := q; simpa [Memory.cell?] using h a
  | cons p m₁ ih =>
    obtain ⟨a, b⟩ := p
    cases m₂ with
    | nil => simpa [Memory.cell?] using h a
    | cons q m₂ =>
      obtain ⟨c, d⟩ := q
      have hac : a = c := by
        rcases lt_trichotomy a c with hlt | heq | hgt
        · have := h a
          rw [cell?_cons, if_pos rfl, cell?_cons, if_neg (by omega), cell?_lt c d m₂ h₂ a hlt] at this
          cases this
        · exact heq
        · have := h c
          rw [cell?_cons, if_neg (by omega), cell?_lt a b m₁ h₁ c hgt, cell?_cons, if_pos rfl] at this
          cases this
      subst hac
      have hbd : b = d := by simpa [cell?_cons] using h a
      subst hbd
      obtain ⟨g₁, t₁⟩ := List.pairwise_cons.mp h₁
      obtain ⟨g₂, t₂⟩ := List.pairwise_cons.mp h₂
      congr 1
      refine ih m₂ t₁ t₂ fun x => ?_
      by_cases hx : x = a
      · subst hx
        have n₁ : ∀ m : Memory, (∀ p ∈ m, x < p.1) → m.cell? x = none := by
          intro m hm
          induction m with
          | nil => rfl
          | cons p m ihm =>
            obtain ⟨e, f⟩ := p
            have := hm (e, f) List.mem_cons_self
            rw [cell?_cons, if_neg (by simp at this; omega)]
            exact ihm fun p hp => hm p (List.mem_cons_of_mem _ hp)
        rw [n₁ m₁ g₁, n₁ m₂ g₂]
      · simpa [cell?_cons, hx] using h x

end Sys2Proof.Machine
end

