-- ==== Sys2Proof/Laws/Moves.lean ====
section
/-! SUPPORT. What each move can do: one inversion lemma for each, "if it answers next t, then …". -/

namespace Sys2Proof.Machine

/-! ### The host -/

theorem State.onUnit_next (s t : State) (u : Nat) (f : CodecUnit → State) (h : s.onUnit u f = .next t) :
    ∃ c, s.units[u]? = some c ∧ t = f c := by
  unfold State.onUnit at h
  split at h
  · cases h
  · next c hc => cases h; exact ⟨c, hc, rfl⟩

theorem State.onUnit_of_unit (s : State) (u : Nat) (f : CodecUnit → State) (c : CodecUnit)
    (h : s.units[u]? = some c) : s.onUnit u f = .next (f c) := by
  simp [State.onUnit, h]

theorem hostWriteReg_next (u : Nat) (w : RegWrite) (s t : State) (h : hostWriteReg u w s = .next t) :
    ∃ c, s.units[u]? = some c ∧ w.fits s.params = true ∧
      (c.unitState = .flushWait → w.anyState = true) ∧ t = s.setUnit u (c.write w) := by
  unfold hostWriteReg at h
  split at h
  · cases h
  · next c hc =>
    split at h
    · cases h
    · next hf =>
      split at h
      · cases h
      · next hs => cases h; exact ⟨c, hc, by simpa using hf, by simpa using hs, rfl⟩

theorem hostReadReg_next (u : Nat) (r : PortReg) (s t : State) (h : hostReadReg u r s = .next t) :
    ∃ c d, s.units[u]? = some c ∧ c.read r = some d ∧ t = { s with seen := some d } := by
  unfold hostReadReg at h
  split at h
  · cases h
  · next c hc =>
    split at h
    · cases h
    · next d hd => cases h; exact ⟨c, d, hc, hd, rfl⟩

theorem hostBufRead_next (a : Nat) (s t : State) (h : hostBufRead a s = .next t) :
    s.inBuf a = true ∧ t = { s with seen := some (.unsigned (s.buf.read a).toNat) } := by
  unfold hostBufRead at h
  split at h
  · next hb => cases h; exact ⟨hb, rfl⟩
  · cases h

theorem hostBufWrite_next (a : Nat) (b : Byte) (s t : State) (h : hostBufWrite a b s = .next t) :
    s.inBuf a = true ∧ t = s.setBuf (s.buf.write a b) := by
  unfold hostBufWrite at h
  split at h
  · next hb => cases h; exact ⟨hb, rfl⟩
  · cases h

theorem hostTakeView_next (u : Nat) (s t : State) (h : hostTakeView u s = .next t) :
    ∃ c v, s.units[u]? = some c ∧ c.view? = some v ∧ t = { s with views := s.views ++ [v] } := by
  unfold hostTakeView at h
  split at h
  · cases h
  · next c hc =>
    split at h
    · cases h
    · next v hv => cases h; exact ⟨c, v, hc, hv, rfl⟩

theorem hostViewRead_next (v i : Nat) (s t : State) (h : hostViewRead v i s = .next t) :
    ∃ w, s.views[v]? = some w ∧ i < w.len ∧
      t = { s with seen := some (.unsigned (s.buf.read (w.base + i)).toNat) } := by
  unfold hostViewRead at h
  split at h
  · cases h
  · next w hw =>
    split at h
    · next hi => cases h; exact ⟨w, hw, hi, rfl⟩
    · cases h

theorem hostViewWrite_next (v i : Nat) (b : Byte) (s t : State) (h : hostViewWrite v i b s = .next t) :
    ∃ w, s.views[v]? = some w ∧ i < w.len ∧ t = s.setBuf (s.buf.write (w.base + i) b) := by
  unfold hostViewWrite at h
  split at h
  · cases h
  · next w hw =>
    split at h
    · next hi => cases h; exact ⟨w, hw, hi, rfl⟩
    · cases h

theorem resetUnit_next (u : Nat) (s t : State) (h : resetUnit u s = .next t) :
    (∃ c, s.units[u]? = some c) ∧ t = s.setUnit u CodecUnit.reset := by
  obtain ⟨c, hc, rfl⟩ := s.onUnit_next t u _ h
  exact ⟨⟨c, hc⟩, rfl⟩

/-! ### The units -/

/-- What a command word decides on a unit: ILLEGAL_COMMAND, or the plan of its instruction (R131). -/
def commandPlan (layout : Float80Layout) (c : CodecUnit) : Plan :=
  match decode c.cmd with
  | .error _ => .fail .illegalCommand
  | .ok i => planOf layout i c

/-- Where a command can be issued, its issue is the carrying out of its plan. -/
theorem issue_of_unit (u : Nat) (s : State) (c : CodecUnit) (h : s.units[u]? = some c)
    (hi : c.notIssuable = none) :
    issue u s = .next ((s.latch u c).carryOut u { c with flushAck := false }
      (commandPlan s.params.layout { c with flushAck := false })) := by
  have hl := s.latch_active_unit u c h
  cases hd : decode c.cmd with
  | error e => simpa [issue, h, hi, commandPlan, hd] using State.perform_of_unit _ _ _ hl
  | ok i => simpa [issue, h, hi, commandPlan, hd, exec_eq_perform] using State.perform_of_unit _ _ _ hl

theorem issue_next (u : Nat) (s t : State) (h : issue u s = .next t) :
    ∃ c, s.units[u]? = some c ∧ c.notIssuable = none ∧
      t = (s.latch u c).carryOut u { c with flushAck := false }
        (commandPlan s.params.layout { c with flushAck := false }) := by
  cases hc : s.units[u]? with
  | none => simp [issue, hc] at h
  | some c =>
    cases hi : c.notIssuable with
    | some why => simp [issue, hc, hi] at h
    | none =>
      rw [issue_of_unit u s c hc hi] at h
      cases h
      exact ⟨c, rfl, hi, rfl⟩

/-- A unit that can take an issue is idle and has nothing in flight. -/
theorem CodecUnit.notIssuable_none (c : CodecUnit) :
    c.notIssuable = none ↔ c.unitState = .idle ∧ c.flight = none := by
  unfold CodecUnit.notIssuable
  cases c.unitState <;> cases c.flight <;> simp

theorem resume_next (u : Nat) (s t : State) (h : resume u s = .next t) :
    ∃ c, s.units[u]? = some c ∧
      (t = s ∨ ∃ k, c.ctx = some k ∧ c.resumable = true ∧ t = s.carryOut u c.leaveFlush (flushPlan k)) := by
  obtain ⟨c, hc, rfl⟩ := s.onUnit_next t u _ h
  refine ⟨c, hc, ?_⟩
  split
  · exact .inl rfl
  · next k hk =>
    split
    · next hr => exact .inr ⟨k, hk, hr, rfl⟩
    · exact .inl rfl

theorem beginSplit_next (u : Nat) (s t : State) (h : beginSplit u s = .next t) :
    (s.params.nUnits ≤ 1 ∧ issue u s = .next t) ∨
    (1 < s.params.nUnits ∧ ∃ c, s.units[u]? = some c ∧ c.notIssuable = none ∧
      t = (s.latch u c).takeOff u { c with flushAck := false }
        (commandPlan s.params.layout { c with flushAck := false })) := by
  unfold beginSplit at h
  split at h
  · next hn => exact .inl ⟨hn, h⟩
  · next hn =>
    refine .inr ⟨by omega, ?_⟩
    split at h
    · cases h
    · next c hc =>
      split at h
      · cases h
      · next hi =>
        refine ⟨c, hc, hi, ?_⟩
        unfold commandPlan
        split at h <;> cases h <;> simp_all

theorem resumeSplit_next (u : Nat) (s t : State) (h : resumeSplit u s = .next t) :
    (s.params.nUnits ≤ 1 ∧ resume u s = .next t) ∨
    (1 < s.params.nUnits ∧ ∃ c, s.units[u]? = some c ∧
      (t = s ∨ ∃ k, c.ctx = some k ∧ c.resumable = true ∧ t = s.takeOff u c.leaveFlush (flushPlan k))) := by
  unfold resumeSplit at h
  split at h
  · next hn => exact .inl ⟨hn, h⟩
  · next hn =>
    refine .inr ⟨by omega, ?_⟩
    obtain ⟨c, hc, rfl⟩ := s.onUnit_next t u _ h
    refine ⟨c, hc, ?_⟩
    split
    · exact .inl rfl
    · next k hk =>
      split
      · next hr => exact .inr ⟨k, hk, hr, rfl⟩
      · exact .inl rfl

theorem accessByte_next (u k : Nat) (s t : State) (h : accessByte u k s = .next t) :
    ∃ c, s.units[u]? = some c ∧
      (t = s ∨
      (∃ tok o got, c.flight = some (.read tok o got) ∧ got[k]? = some none ∧
        t = s.setUnit u { c with flight := some (.read tok o (got.set k (some (s.buf.read (o + k))))) }) ∨
      (∃ base o bs todo b, c.flight = some (.write base o bs todo) ∧ bs[k]? = some b ∧ k ∈ todo ∧
        t = (s.setBuf (s.buf.write (base + k) b)).setUnit u
          { c with flight := some (.write base o bs (todo.erase k)) })) := by
  obtain ⟨c, hc, rfl⟩ := s.onUnit_next t u _ h
  refine ⟨c, hc, ?_⟩
  split
  · exact .inl rfl
  · exact .inl rfl
  · next tok o got hf =>
    split
    · next hk => exact .inr (.inl ⟨tok, o, got, hf, hk, rfl⟩)
    · exact .inl rfl
  · next base o bs todo hf =>
    split
    · exact .inl rfl
    · next b hb =>
      split
      · next hk => exact .inr (.inr ⟨base, o, bs, todo, b, hf, hb, hk, rfl⟩)
      · exact .inl rfl

theorem finishSplit_next (u : Nat) (s t : State) (h : finishSplit u s = .next t) :
    ∃ c, s.units[u]? = some c ∧
      (t = s ∨ ∃ f r, c.flight = some f ∧ f.response? s.params.layout = some r ∧
        t = s.setUnit u ({ c with flight := none }.respond r)) := by
  obtain ⟨c, hc, rfl⟩ := s.onUnit_next t u _ h
  refine ⟨c, hc, ?_⟩
  split
  · exact .inl rfl
  · next f hf =>
    split
    · exact .inl rfl
    · next r hr => exact .inr ⟨f, r, hf, hr, rfl⟩

/-! ### The step -/

theorem step_nil (s : State) (h : s.sched = []) : step s = .next s := by
  simp [step, stepState, h]

theorem step_cons (s : State) (m : Move) (rest : List Move) (h : s.sched = m :: rest) :
    step s = runMove m { s with sched := rest } := by
  simp [step, stepState, h]

/-- A step is a stutter with nothing scheduled, or one move. -/
theorem step_next (s t : State) (h : step s = .next t) :
    (s.sched = [] ∧ t = s) ∨
    ∃ m rest, s.sched = m :: rest ∧ runMove m { s with sched := rest } = .next t := by
  cases hs : s.sched with
  | nil => rw [step_nil s hs] at h; cases h; exact .inl ⟨rfl, rfl⟩
  | cons m rest => exact .inr ⟨m, rest, rfl, by rw [← step_cons s m rest hs]; exact h⟩

end Sys2Proof.Machine
end

