-- ==== Sys2Proof/Laws/PerInstr.lean ====
section
/-! SUPPORT. Facts about every instruction as syntax, one lemma per constructor of `Instr`. -/

namespace Sys2Proof.Laws.RowInTable

/-- The instruction's row is one of the 82 rows of the opcode table, and it admits the instruction's word
(spec/30_encoding.md R108, R111). -/
def Statement (i : Instr) : Prop :=
  i.row ∈ opcodeRows ∧ (i.wellFormed = true → i.row.admits (encode i) = true)

theorem uint8Get : Statement .uint8Get := ⟨by decide, fun _ => by decide⟩

theorem uint8Put : Statement .uint8Put := ⟨by decide, fun _ => by decide⟩

theorem uint8Putf : Statement .uint8Putf := ⟨by decide, fun _ => by decide⟩

theorem uint16LeGet : Statement .uint16LeGet := ⟨by decide, fun _ => by decide⟩

theorem uint16LePut : Statement .uint16LePut := ⟨by decide, fun _ => by decide⟩

theorem uint16LePutf : Statement .uint16LePutf := ⟨by decide, fun _ => by decide⟩

theorem uint16BeGet : Statement .uint16BeGet := ⟨by decide, fun _ => by decide⟩

theorem uint16BePut : Statement .uint16BePut := ⟨by decide, fun _ => by decide⟩

theorem uint16BePutf : Statement .uint16BePutf := ⟨by decide, fun _ => by decide⟩

theorem uint24LeGet : Statement .uint24LeGet := ⟨by decide, fun _ => by decide⟩

theorem uint24LePut : Statement .uint24LePut := ⟨by decide, fun _ => by decide⟩

theorem uint24LePutf : Statement .uint24LePutf := ⟨by decide, fun _ => by decide⟩

theorem uint24BeGet : Statement .uint24BeGet := ⟨by decide, fun _ => by decide⟩

theorem uint24BePut : Statement .uint24BePut := ⟨by decide, fun _ => by decide⟩

theorem uint24BePutf : Statement .uint24BePutf := ⟨by decide, fun _ => by decide⟩

theorem uint32LeGet : Statement .uint32LeGet := ⟨by decide, fun _ => by decide⟩

theorem uint32LePut : Statement .uint32LePut := ⟨by decide, fun _ => by decide⟩

theorem uint32LePutf : Statement .uint32LePutf := ⟨by decide, fun _ => by decide⟩

theorem uint32BeGet : Statement .uint32BeGet := ⟨by decide, fun _ => by decide⟩

theorem uint32BePut : Statement .uint32BePut := ⟨by decide, fun _ => by decide⟩

theorem uint32BePutf : Statement .uint32BePutf := ⟨by decide, fun _ => by decide⟩

theorem uint64LeGet : Statement .uint64LeGet := ⟨by decide, fun _ => by decide⟩

theorem uint64LePut : Statement .uint64LePut := ⟨by decide, fun _ => by decide⟩

theorem uint64LePutf : Statement .uint64LePutf := ⟨by decide, fun _ => by decide⟩

theorem uint64BeGet : Statement .uint64BeGet := ⟨by decide, fun _ => by decide⟩

theorem uint64BePut : Statement .uint64BePut := ⟨by decide, fun _ => by decide⟩

theorem uint64BePutf : Statement .uint64BePutf := ⟨by decide, fun _ => by decide⟩

theorem int8Get : Statement .int8Get := ⟨by decide, fun _ => by decide⟩

theorem int8Put : Statement .int8Put := ⟨by decide, fun _ => by decide⟩

theorem int8Putf : Statement .int8Putf := ⟨by decide, fun _ => by decide⟩

theorem int16LeGet : Statement .int16LeGet := ⟨by decide, fun _ => by decide⟩

theorem int16LePut : Statement .int16LePut := ⟨by decide, fun _ => by decide⟩

theorem int16LePutf : Statement .int16LePutf := ⟨by decide, fun _ => by decide⟩

theorem int16BeGet : Statement .int16BeGet := ⟨by decide, fun _ => by decide⟩

theorem int16BePut : Statement .int16BePut := ⟨by decide, fun _ => by decide⟩

theorem int16BePutf : Statement .int16BePutf := ⟨by decide, fun _ => by decide⟩

theorem int24LeGet : Statement .int24LeGet := ⟨by decide, fun _ => by decide⟩

theorem int24LePut : Statement .int24LePut := ⟨by decide, fun _ => by decide⟩

theorem int24LePutf : Statement .int24LePutf := ⟨by decide, fun _ => by decide⟩

theorem int24BeGet : Statement .int24BeGet := ⟨by decide, fun _ => by decide⟩

theorem int24BePut : Statement .int24BePut := ⟨by decide, fun _ => by decide⟩

theorem int24BePutf : Statement .int24BePutf := ⟨by decide, fun _ => by decide⟩

theorem int32LeGet : Statement .int32LeGet := ⟨by decide, fun _ => by decide⟩

theorem int32LePut : Statement .int32LePut := ⟨by decide, fun _ => by decide⟩

theorem int32LePutf : Statement .int32LePutf := ⟨by decide, fun _ => by decide⟩

theorem int32BeGet : Statement .int32BeGet := ⟨by decide, fun _ => by decide⟩

theorem int32BePut : Statement .int32BePut := ⟨by decide, fun _ => by decide⟩

theorem int32BePutf : Statement .int32BePutf := ⟨by decide, fun _ => by decide⟩

theorem int64LeGet : Statement .int64LeGet := ⟨by decide, fun _ => by decide⟩

theorem int64LePut : Statement .int64LePut := ⟨by decide, fun _ => by decide⟩

theorem int64LePutf : Statement .int64LePutf := ⟨by decide, fun _ => by decide⟩

theorem int64BeGet : Statement .int64BeGet := ⟨by decide, fun _ => by decide⟩

theorem int64BePut : Statement .int64BePut := ⟨by decide, fun _ => by decide⟩

theorem int64BePutf : Statement .int64BePutf := ⟨by decide, fun _ => by decide⟩

theorem float16LeGet : Statement .float16LeGet := ⟨by decide, fun _ => by decide⟩

theorem float16LePut : Statement .float16LePut := ⟨by decide, fun _ => by decide⟩

theorem float16LePutf : Statement .float16LePutf := ⟨by decide, fun _ => by decide⟩

theorem float16BeGet : Statement .float16BeGet := ⟨by decide, fun _ => by decide⟩

theorem float16BePut : Statement .float16BePut := ⟨by decide, fun _ => by decide⟩

theorem float16BePutf : Statement .float16BePutf := ⟨by decide, fun _ => by decide⟩

theorem float32LeGet : Statement .float32LeGet := ⟨by decide, fun _ => by decide⟩

theorem float32LePut : Statement .float32LePut := ⟨by decide, fun _ => by decide⟩

theorem float32LePutf : Statement .float32LePutf := ⟨by decide, fun _ => by decide⟩

theorem float32BeGet : Statement .float32BeGet := ⟨by decide, fun _ => by decide⟩

theorem float32BePut : Statement .float32BePut := ⟨by decide, fun _ => by decide⟩

theorem float32BePutf : Statement .float32BePutf := ⟨by decide, fun _ => by decide⟩

theorem float64LeGet : Statement .float64LeGet := ⟨by decide, fun _ => by decide⟩

theorem float64LePut : Statement .float64LePut := ⟨by decide, fun _ => by decide⟩

theorem float64LePutf : Statement .float64LePutf := ⟨by decide, fun _ => by decide⟩

theorem float64BeGet : Statement .float64BeGet := ⟨by decide, fun _ => by decide⟩

theorem float64BePut : Statement .float64BePut := ⟨by decide, fun _ => by decide⟩

theorem float64BePutf : Statement .float64BePutf := ⟨by decide, fun _ => by decide⟩

theorem float80LeGet : Statement .float80LeGet := ⟨by decide, fun _ => by decide⟩

theorem float80LePut : Statement .float80LePut := ⟨by decide, fun _ => by decide⟩

theorem float80LePutf : Statement .float80LePutf := ⟨by decide, fun _ => by decide⟩

theorem float80BeGet : Statement .float80BeGet := ⟨by decide, fun _ => by decide⟩

theorem float80BePut : Statement .float80BePut := ⟨by decide, fun _ => by decide⟩

theorem float80BePutf : Statement .float80BePutf := ⟨by decide, fun _ => by decide⟩

theorem spanGet : Statement .spanGet := ⟨by decide, fun _ => by decide⟩

theorem spanCopyGet : Statement .spanCopyGet := ⟨by decide, fun _ => by decide⟩

theorem ignoreGet : Statement .ignoreGet := ⟨by decide, fun _ => by decide⟩

theorem len (tok : Token) : Statement (.len tok) := by
  refine ⟨by simp [Instr.row, Instr.op, opcodeRows], fun _ => ?_⟩
  cases tok with
  | int sg w order => cases sg <;> cases w <;> cases order <;> decide
  | float f order => cases f <;> cases order <;> decide
  | span => decide
  | spanCopy => decide
  | ignore => decide

end Sys2Proof.Laws.RowInTable
end

