-- ==== Sys2Proof/Tests/Slice0.lean ====
section
/-! SUPPORT. The model's own tests: ill-formed terms refused, every constructor's word decoded, the spec's worked
examples of every token, and for every statement with hypotheses a concrete case that meets them. -/

namespace Sys2Proof.Tests

open Sys2Proof Sys2Proof.Machine

/-! ### Helpers -/

/-- A unit over a buffer of 16 bytes. -/
def unit16 : CodecUnit := { CodecUnit.reset with bufSize := 16 }

/-- One unit over a buffer that holds `bs` from address 0. -/
def one (c : CodecUnit) (bs : List Byte) : State :=
  { State.reset with units := [c], buf := (List.range bs.length).zip bs }

/-- The same under the IMPLICIT layout. -/
def oneImplicit (c : CodecUnit) (bs : List Byte) : State :=
  { one c bs with params := { Config.params with layout := .implicit } }

/-- Two units over the same buffer. -/
def two (c d : CodecUnit) (bs : List Byte) : State :=
  { one c bs with params := { Config.params with nUnits := 2 }, units := [c, d] }

/-- A unit whose `putf` of `v` at `o` asks for a flush, its buffer being of `size` bytes. -/
def misfit (v : ValueWord) (size o : Nat) : CodecUnit :=
  { unit16 with value := v, bufSize := size, offset := o, flushCb := true }

/-- Unit 0 after a step, if there is a next state. -/
def after : Host.Outcome State Fault Refusal → Option CodecUnit
  | .next t => t.units[0]?
  | .fault _ => none
  | .refused _ => none

/-- BUF after a step, if there is a next state. -/
def bufAfter : Host.Outcome State Fault Refusal → Option Memory
  | .next t => some t.buf
  | .fault _ => none
  | .refused _ => none

/-- The state after a step, or the reset state where the step stops. -/
def afterStep : Host.Outcome State Fault Refusal → State
  | .next t => t
  | .fault _ => State.reset
  | .refused _ => State.reset

/-- RESULT and NEXT of unit 0 after a step. -/
def result (x : Host.Outcome State Fault Refusal) : Option (Option Word64 × Option Nat) :=
  (after x).map fun d => (d.result, d.next)

/-- STATUS of unit 0 after a step. -/
def status (x : Host.Outcome State Fault Refusal) : Option Status := (after x).map CodecUnit.status

/-- FLUSH_REQ and FLUSH_OFF of unit 0 after a step. -/
def flush (x : Host.Outcome State Fault Refusal) : Option (Bool × Option Nat) :=
  (after x).map fun d => (d.flushReq, d.flushOff)

/-! ### Ill-formed terms (spec/30_encoding.md R103, R107) -/

/-- The only ill-formed terms are LENGTH commands of a one-byte token with an order. -/
theorem test_wellFormed_refuses : (Instr.len (.int .unsigned .w1 .be)).wellFormed = false ∧
    (Instr.len (.int .signed .w1 .be)).wellFormed = false ∧
    (Token.int .unsigned .w1 .be).wellFormed = false ∧ (Token.int .signed .w1 .be).wellFormed = false ∧
    (AsmLine.get .span 0).wellFormed = false ∧ (AsmLine.put .ignore 0 (.integer 0)).wellFormed = false ∧
    (AsmLine.putf .spanCopy 0 (.bits 0) true).wellFormed = false ∧
    (AsmLine.put (.int .signed .w8 .le) 0 (.integer (2 ^ 65))).wellFormed = false ∧
    (AsmLine.put (.int .signed .w8 .le) 0 (.bits 0)).wellFormed = false ∧
    (AsmLine.put (.float .f64 .le) 0 (.integer 0)).wellFormed = false ∧ (AsmLine.len .span).wellFormed = false ∧
    (AsmLine.getN (.float .f16 .le) 0 1).wellFormed = false ∧
    (AsmLine.lenN (.int .signed .w2 .le) 1).wellFormed = false := by decide

/-- One illegal word for each reason of R107, with the decoder's name for it. -/
theorem test_decode_refuses : decode 0x00000200#32 = .error .reservedBits ∧
    decode 0x00000018#32 = .error .reservedClass ∧ decode 0x0000001C#32 = .error .reservedClass ∧
    decode 0x000000C0#32 = .error .reservedWidth ∧ decode 0x000000A0#32 = .error .illegalWidth ∧
    decode 0x00000008#32 = .error .illegalWidth ∧ decode 0x00000100#32 = .error .orderOnOneByte ∧
    decode 0x0000002C#32 = .error .spanWidth ∧ decode 0x0000010C#32 = .error .spanOrder ∧
    decode 0x0000000D#32 = .error .spanEncode ∧ decodeCmd 0x0000000C#32 0 = .error .zeroLength := by decide

/-! ### Every constructor's word, from the table of R110 -/

/-- The words of the unsigned commands. -/
theorem test_decode_unsigned :
    decodeTableWord 32 0x00000000 = some .uint8Get ∧
    decodeTableWord 32 0x00000001 = some .uint8Put ∧
    decodeTableWord 32 0x00000002 = some .uint8Putf ∧
    decodeTableWord 32 0x00000020 = some .uint16LeGet ∧
    decodeTableWord 32 0x00000021 = some .uint16LePut ∧
    decodeTableWord 32 0x00000022 = some .uint16LePutf ∧
    decodeTableWord 32 0x00000120 = some .uint16BeGet ∧
    decodeTableWord 32 0x00000121 = some .uint16BePut ∧
    decodeTableWord 32 0x00000122 = some .uint16BePutf ∧
    decodeTableWord 32 0x00000040 = some .uint24LeGet ∧
    decodeTableWord 32 0x00000041 = some .uint24LePut ∧
    decodeTableWord 32 0x00000042 = some .uint24LePutf ∧
    decodeTableWord 32 0x00000140 = some .uint24BeGet ∧
    decodeTableWord 32 0x00000141 = some .uint24BePut ∧
    decodeTableWord 32 0x00000142 = some .uint24BePutf ∧
    decodeTableWord 32 0x00000060 = some .uint32LeGet ∧
    decodeTableWord 32 0x00000061 = some .uint32LePut ∧
    decodeTableWord 32 0x00000062 = some .uint32LePutf ∧
    decodeTableWord 32 0x00000160 = some .uint32BeGet ∧
    decodeTableWord 32 0x00000161 = some .uint32BePut ∧
    decodeTableWord 32 0x00000162 = some .uint32BePutf ∧
    decodeTableWord 32 0x00000080 = some .uint64LeGet ∧
    decodeTableWord 32 0x00000081 = some .uint64LePut ∧
    decodeTableWord 32 0x00000082 = some .uint64LePutf ∧
    decodeTableWord 32 0x00000180 = some .uint64BeGet ∧
    decodeTableWord 32 0x00000181 = some .uint64BePut ∧
    decodeTableWord 32 0x00000182 = some .uint64BePutf := by decide

/-- The words of the signed commands. -/
theorem test_decode_signed :
    decodeTableWord 32 0x00000004 = some .int8Get ∧
    decodeTableWord 32 0x00000005 = some .int8Put ∧
    decodeTableWord 32 0x00000006 = some .int8Putf ∧
    decodeTableWord 32 0x00000024 = some .int16LeGet ∧
    decodeTableWord 32 0x00000025 = some .int16LePut ∧
    decodeTableWord 32 0x00000026 = some .int16LePutf ∧
    decodeTableWord 32 0x00000124 = some .int16BeGet ∧
    decodeTableWord 32 0x00000125 = some .int16BePut ∧
    decodeTableWord 32 0x00000126 = some .int16BePutf ∧
    decodeTableWord 32 0x00000044 = some .int24LeGet ∧
    decodeTableWord 32 0x00000045 = some .int24LePut ∧
    decodeTableWord 32 0x00000046 = some .int24LePutf ∧
    decodeTableWord 32 0x00000144 = some .int24BeGet ∧
    decodeTableWord 32 0x00000145 = some .int24BePut ∧
    decodeTableWord 32 0x00000146 = some .int24BePutf ∧
    decodeTableWord 32 0x00000064 = some .int32LeGet ∧
    decodeTableWord 32 0x00000065 = some .int32LePut ∧
    decodeTableWord 32 0x00000066 = some .int32LePutf ∧
    decodeTableWord 32 0x00000164 = some .int32BeGet ∧
    decodeTableWord 32 0x00000165 = some .int32BePut ∧
    decodeTableWord 32 0x00000166 = some .int32BePutf ∧
    decodeTableWord 32 0x00000084 = some .int64LeGet ∧
    decodeTableWord 32 0x00000085 = some .int64LePut ∧
    decodeTableWord 32 0x00000086 = some .int64LePutf ∧
    decodeTableWord 32 0x00000184 = some .int64BeGet ∧
    decodeTableWord 32 0x00000185 = some .int64BePut ∧
    decodeTableWord 32 0x00000186 = some .int64BePutf := by decide

/-- The words of the float commands. -/
theorem test_decode_float :
    decodeTableWord 32 0x00000028 = some .float16LeGet ∧
    decodeTableWord 32 0x00000029 = some .float16LePut ∧
    decodeTableWord 32 0x0000002A = some .float16LePutf ∧
    decodeTableWord 32 0x00000128 = some .float16BeGet ∧
    decodeTableWord 32 0x00000129 = some .float16BePut ∧
    decodeTableWord 32 0x0000012A = some .float16BePutf ∧
    decodeTableWord 32 0x00000068 = some .float32LeGet ∧
    decodeTableWord 32 0x00000069 = some .float32LePut ∧
    decodeTableWord 32 0x0000006A = some .float32LePutf ∧
    decodeTableWord 32 0x00000168 = some .float32BeGet ∧
    decodeTableWord 32 0x00000169 = some .float32BePut ∧
    decodeTableWord 32 0x0000016A = some .float32BePutf ∧
    decodeTableWord 32 0x00000088 = some .float64LeGet ∧
    decodeTableWord 32 0x00000089 = some .float64LePut ∧
    decodeTableWord 32 0x0000008A = some .float64LePutf ∧
    decodeTableWord 32 0x00000188 = some .float64BeGet ∧
    decodeTableWord 32 0x00000189 = some .float64BePut ∧
    decodeTableWord 32 0x0000018A = some .float64BePutf ∧
    decodeTableWord 32 0x000000A8 = some .float80LeGet ∧
    decodeTableWord 32 0x000000A9 = some .float80LePut ∧
    decodeTableWord 32 0x000000AA = some .float80LePutf ∧
    decodeTableWord 32 0x000001A8 = some .float80BeGet ∧
    decodeTableWord 32 0x000001A9 = some .float80BePut ∧
    decodeTableWord 32 0x000001AA = some .float80BePutf := by decide

/-- The words of the span, span-copy and ignore commands. -/
theorem test_decode_span :
    decodeTableWord 32 0x0000000C = some .spanGet ∧
    decodeTableWord 32 0x00000010 = some .spanCopyGet ∧
    decodeTableWord 32 0x00000014 = some .ignoreGet := by decide

/-- The LENGTH word of every token. -/
theorem test_decode_len :
    decodeTableWord 32 0x00000003 = some (.len (.int .unsigned .w1 .le)) ∧
    decodeTableWord 32 0x00000023 = some (.len (.int .unsigned .w2 .le)) ∧
    decodeTableWord 32 0x00000123 = some (.len (.int .unsigned .w2 .be)) ∧
    decodeTableWord 32 0x00000043 = some (.len (.int .unsigned .w3 .le)) ∧
    decodeTableWord 32 0x00000143 = some (.len (.int .unsigned .w3 .be)) ∧
    decodeTableWord 32 0x00000063 = some (.len (.int .unsigned .w4 .le)) ∧
    decodeTableWord 32 0x00000163 = some (.len (.int .unsigned .w4 .be)) ∧
    decodeTableWord 32 0x00000083 = some (.len (.int .unsigned .w8 .le)) ∧
    decodeTableWord 32 0x00000183 = some (.len (.int .unsigned .w8 .be)) ∧
    decodeTableWord 32 0x00000007 = some (.len (.int .signed .w1 .le)) ∧
    decodeTableWord 32 0x00000027 = some (.len (.int .signed .w2 .le)) ∧
    decodeTableWord 32 0x00000127 = some (.len (.int .signed .w2 .be)) ∧
    decodeTableWord 32 0x00000047 = some (.len (.int .signed .w3 .le)) ∧
    decodeTableWord 32 0x00000147 = some (.len (.int .signed .w3 .be)) ∧
    decodeTableWord 32 0x00000067 = some (.len (.int .signed .w4 .le)) ∧
    decodeTableWord 32 0x00000167 = some (.len (.int .signed .w4 .be)) ∧
    decodeTableWord 32 0x00000087 = some (.len (.int .signed .w8 .le)) ∧
    decodeTableWord 32 0x00000187 = some (.len (.int .signed .w8 .be)) ∧
    decodeTableWord 32 0x0000002B = some (.len (.float .f16 .le)) ∧
    decodeTableWord 32 0x0000012B = some (.len (.float .f16 .be)) ∧
    decodeTableWord 32 0x0000006B = some (.len (.float .f32 .le)) ∧
    decodeTableWord 32 0x0000016B = some (.len (.float .f32 .be)) ∧
    decodeTableWord 32 0x0000008B = some (.len (.float .f64 .le)) ∧
    decodeTableWord 32 0x0000018B = some (.len (.float .f64 .be)) ∧
    decodeTableWord 32 0x000000AB = some (.len (.float .f80 .le)) ∧
    decodeTableWord 32 0x000001AB = some (.len (.float .f80 .be)) ∧
    decodeTableWord 32 0x0000000F = some (.len .span) ∧
    decodeTableWord 32 0x00000013 = some (.len .spanCopy) ∧
    decodeTableWord 32 0x00000017 = some (.len .ignore) := by decide

/-! ### The spec's worked examples, one token at a time (41_integer.md, 42_float.md, 43_span.md) -/

/-- The examples of R170, R171 and R172. -/
theorem test_uint8 :
    result (exec .uint8Get (one unit16 [0xA5])) =
      some (some 0x00000000000000A5#64, some 1) ∧
    bufAfter (exec .uint8Put (one { unit16 with value := BitVec.ofInt 66 (165) } [])) =
      some ((List.range 1).zip [0xA5]) ∧
    flush (exec .uint8Putf (one (misfit (BitVec.ofInt 66 (165)) 2 2) [])) =
      some (true, some 2) := by decide

/-- The examples of R173, R174 and R175. -/
theorem test_uint16Le :
    result (exec .uint16LeGet (one unit16 [0x34, 0x12])) =
      some (some 0x0000000000001234#64, some 2) ∧
    bufAfter (exec .uint16LePut (one { unit16 with value := BitVec.ofInt 66 (4660) } [])) =
      some ((List.range 2).zip [0x34, 0x12]) ∧
    flush (exec .uint16LePutf (one (misfit (BitVec.ofInt 66 (4660)) 3 2) [])) =
      some (true, some 2) := by decide

/-- The examples of R176, R177 and R178. -/
theorem test_uint16Be :
    result (exec .uint16BeGet (one unit16 [0x12, 0x34])) =
      some (some 0x0000000000001234#64, some 2) ∧
    bufAfter (exec .uint16BePut (one { unit16 with value := BitVec.ofInt 66 (4660) } [])) =
      some ((List.range 2).zip [0x12, 0x34]) ∧
    flush (exec .uint16BePutf (one (misfit (BitVec.ofInt 66 (4660)) 3 2) [])) =
      some (true, some 2) := by decide

/-- The examples of R179, R180 and R181. -/
theorem test_uint24Le :
    result (exec .uint24LeGet (one unit16 [0xCC, 0xBB, 0xAA])) =
      some (some 0x0000000000AABBCC#64, some 3) ∧
    bufAfter (exec .uint24LePut (one { unit16 with value := BitVec.ofInt 66 (11189196) } [])) =
      some ((List.range 3).zip [0xCC, 0xBB, 0xAA]) ∧
    flush (exec .uint24LePutf (one (misfit (BitVec.ofInt 66 (11189196)) 4 2) [])) =
      some (true, some 2) := by decide

/-- The examples of R182, R183 and R184. -/
theorem test_uint24Be :
    result (exec .uint24BeGet (one unit16 [0xAA, 0xBB, 0xCC])) =
      some (some 0x0000000000AABBCC#64, some 3) ∧
    bufAfter (exec .uint24BePut (one { unit16 with value := BitVec.ofInt 66 (11189196) } [])) =
      some ((List.range 3).zip [0xAA, 0xBB, 0xCC]) ∧
    flush (exec .uint24BePutf (one (misfit (BitVec.ofInt 66 (11189196)) 4 2) [])) =
      some (true, some 2) := by decide

/-- The examples of R185, R186 and R187. -/
theorem test_uint32Le :
    result (exec .uint32LeGet (one unit16 [0x78, 0x56, 0x34, 0x12])) =
      some (some 0x0000000012345678#64, some 4) ∧
    bufAfter (exec .uint32LePut (one { unit16 with value := BitVec.ofInt 66 (305419896) } [])) =
      some ((List.range 4).zip [0x78, 0x56, 0x34, 0x12]) ∧
    flush (exec .uint32LePutf (one (misfit (BitVec.ofInt 66 (305419896)) 5 2) [])) =
      some (true, some 2) := by decide

/-- The examples of R188, R189 and R190. -/
theorem test_uint32Be :
    result (exec .uint32BeGet (one unit16 [0x12, 0x34, 0x56, 0x78])) =
      some (some 0x0000000012345678#64, some 4) ∧
    bufAfter (exec .uint32BePut (one { unit16 with value := BitVec.ofInt 66 (305419896) } [])) =
      some ((List.range 4).zip [0x12, 0x34, 0x56, 0x78]) ∧
    flush (exec .uint32BePutf (one (misfit (BitVec.ofInt 66 (305419896)) 5 2) [])) =
      some (true, some 2) := by decide

/-- The examples of R191, R192 and R193. -/
theorem test_uint64Le :
    result (exec .uint64LeGet (one unit16 [0xEF, 0xCD, 0xAB, 0x89, 0x67, 0x45, 0x23, 0x01])) =
      some (some 0x0123456789ABCDEF#64, some 8) ∧
    bufAfter (exec .uint64LePut (one { unit16 with value := BitVec.ofInt 66 (81985529216486895) } [])) =
      some ((List.range 8).zip [0xEF, 0xCD, 0xAB, 0x89, 0x67, 0x45, 0x23, 0x01]) ∧
    flush (exec .uint64LePutf (one (misfit (BitVec.ofInt 66 (81985529216486895)) 9 2) [])) =
      some (true, some 2) := by decide

/-- The examples of R194, R195 and R196. -/
theorem test_uint64Be :
    result (exec .uint64BeGet (one unit16 [0x01, 0x23, 0x45, 0x67, 0x89, 0xAB, 0xCD, 0xEF])) =
      some (some 0x0123456789ABCDEF#64, some 8) ∧
    bufAfter (exec .uint64BePut (one { unit16 with value := BitVec.ofInt 66 (81985529216486895) } [])) =
      some ((List.range 8).zip [0x01, 0x23, 0x45, 0x67, 0x89, 0xAB, 0xCD, 0xEF]) ∧
    flush (exec .uint64BePutf (one (misfit (BitVec.ofInt 66 (81985529216486895)) 9 2) [])) =
      some (true, some 2) := by decide

/-- The examples of R197, R198 and R199. -/
theorem test_int8 :
    result (exec .int8Get (one unit16 [0xFE])) =
      some (some 0xFFFFFFFFFFFFFFFE#64, some 1) ∧
    bufAfter (exec .int8Put (one { unit16 with value := BitVec.ofInt 66 (-2) } [])) =
      some ((List.range 1).zip [0xFE]) ∧
    flush (exec .int8Putf (one (misfit (BitVec.ofInt 66 (-2)) 2 2) [])) =
      some (true, some 2) := by decide

/-- The examples of R200, R201 and R202. -/
theorem test_int16Le :
    result (exec .int16LeGet (one unit16 [0xFE, 0xFF])) =
      some (some 0xFFFFFFFFFFFFFFFE#64, some 2) ∧
    bufAfter (exec .int16LePut (one { unit16 with value := BitVec.ofInt 66 (-2) } [])) =
      some ((List.range 2).zip [0xFE, 0xFF]) ∧
    flush (exec .int16LePutf (one (misfit (BitVec.ofInt 66 (-2)) 3 2) [])) =
      some (true, some 2) := by decide

/-- The examples of R203, R204 and R205. -/
theorem test_int16Be :
    result (exec .int16BeGet (one unit16 [0xFF, 0xFE])) =
      some (some 0xFFFFFFFFFFFFFFFE#64, some 2) ∧
    bufAfter (exec .int16BePut (one { unit16 with value := BitVec.ofInt 66 (-2) } [])) =
      some ((List.range 2).zip [0xFF, 0xFE]) ∧
    flush (exec .int16BePutf (one (misfit (BitVec.ofInt 66 (-2)) 3 2) [])) =
      some (true, some 2) := by decide

/-- The examples of R206, R207 and R208. -/
theorem test_int24Le :
    result (exec .int24LeGet (one unit16 [0x00, 0x00, 0x80])) =
      some (some 0xFFFFFFFFFF800000#64, some 3) ∧
    bufAfter (exec .int24LePut (one { unit16 with value := BitVec.ofInt 66 (-8388608) } [])) =
      some ((List.range 3).zip [0x00, 0x00, 0x80]) ∧
    flush (exec .int24LePutf (one (misfit (BitVec.ofInt 66 (-8388608)) 4 2) [])) =
      some (true, some 2) := by decide

/-- The examples of R209, R210 and R211. -/
theorem test_int24Be :
    result (exec .int24BeGet (one unit16 [0x80, 0x00, 0x00])) =
      some (some 0xFFFFFFFFFF800000#64, some 3) ∧
    bufAfter (exec .int24BePut (one { unit16 with value := BitVec.ofInt 66 (-8388608) } [])) =
      some ((List.range 3).zip [0x80, 0x00, 0x00]) ∧
    flush (exec .int24BePutf (one (misfit (BitVec.ofInt 66 (-8388608)) 4 2) [])) =
      some (true, some 2) := by decide

/-- The examples of R212, R213 and R214. -/
theorem test_int32Le :
    result (exec .int32LeGet (one unit16 [0xFE, 0xFF, 0xFF, 0xFF])) =
      some (some 0xFFFFFFFFFFFFFFFE#64, some 4) ∧
    bufAfter (exec .int32LePut (one { unit16 with value := BitVec.ofInt 66 (-2) } [])) =
      some ((List.range 4).zip [0xFE, 0xFF, 0xFF, 0xFF]) ∧
    flush (exec .int32LePutf (one (misfit (BitVec.ofInt 66 (-2)) 5 2) [])) =
      some (true, some 2) := by decide

/-- The examples of R215, R216 and R217. -/
theorem test_int32Be :
    result (exec .int32BeGet (one unit16 [0xFF, 0xFF, 0xFF, 0xFE])) =
      some (some 0xFFFFFFFFFFFFFFFE#64, some 4) ∧
    bufAfter (exec .int32BePut (one { unit16 with value := BitVec.ofInt 66 (-2) } [])) =
      some ((List.range 4).zip [0xFF, 0xFF, 0xFF, 0xFE]) ∧
    flush (exec .int32BePutf (one (misfit (BitVec.ofInt 66 (-2)) 5 2) [])) =
      some (true, some 2) := by decide

/-- The examples of R218, R219 and R220. -/
theorem test_int64Le :
    result (exec .int64LeGet (one unit16 [0xFE, 0xFF, 0xFF, 0xFF, 0xFF, 0xFF, 0xFF, 0xFF])) =
      some (some 0xFFFFFFFFFFFFFFFE#64, some 8) ∧
    bufAfter (exec .int64LePut (one { unit16 with value := BitVec.ofInt 66 (-2) } [])) =
      some ((List.range 8).zip [0xFE, 0xFF, 0xFF, 0xFF, 0xFF, 0xFF, 0xFF, 0xFF]) ∧
    flush (exec .int64LePutf (one (misfit (BitVec.ofInt 66 (-2)) 9 2) [])) =
      some (true, some 2) := by decide

/-- The examples of R221, R222 and R223. -/
theorem test_int64Be :
    result (exec .int64BeGet (one unit16 [0xFF, 0xFF, 0xFF, 0xFF, 0xFF, 0xFF, 0xFF, 0xFE])) =
      some (some 0xFFFFFFFFFFFFFFFE#64, some 8) ∧
    bufAfter (exec .int64BePut (one { unit16 with value := BitVec.ofInt 66 (-2) } [])) =
      some ((List.range 8).zip [0xFF, 0xFF, 0xFF, 0xFF, 0xFF, 0xFF, 0xFF, 0xFE]) ∧
    flush (exec .int64BePutf (one (misfit (BitVec.ofInt 66 (-2)) 9 2) [])) =
      some (true, some 2) := by decide

/-- The examples of R270, R271 and R272. -/
theorem test_float16Le :
    result (exec .float16LeGet (one unit16 [0x52, 0x55])) =
      some (some 0x4055480000000000#64, some 2) ∧
    bufAfter (exec .float16LePut (one { unit16 with value := 0x4055480000000000#66 } [])) =
      some ((List.range 2).zip [0x52, 0x55]) ∧
    flush (exec .float16LePutf (one (misfit (0x4055480000000000#66) 3 2) [])) =
      some (true, some 2) := by decide

/-- The examples of R273, R274 and R275. -/
theorem test_float16Be :
    result (exec .float16BeGet (one unit16 [0x55, 0x52])) =
      some (some 0x4055480000000000#64, some 2) ∧
    bufAfter (exec .float16BePut (one { unit16 with value := 0x4055480000000000#66 } [])) =
      some ((List.range 2).zip [0x55, 0x52]) ∧
    flush (exec .float16BePutf (one (misfit (0x4055480000000000#66) 3 2) [])) =
      some (true, some 2) := by decide

/-- The examples of R276, R277 and R278. -/
theorem test_float32Le :
    result (exec .float32LeGet (one unit16 [0xAB, 0xAA, 0xAA, 0x3E])) =
      some (some 0x3FD5555560000000#64, some 4) ∧
    bufAfter (exec .float32LePut (one { unit16 with value := 0x3FD5555555555555#66 } [])) =
      some ((List.range 4).zip [0xAB, 0xAA, 0xAA, 0x3E]) ∧
    flush (exec .float32LePutf (one (misfit (0x3FD5555555555555#66) 5 2) [])) =
      some (true, some 2) := by decide

/-- The examples of R279, R280 and R281. -/
theorem test_float32Be :
    result (exec .float32BeGet (one unit16 [0x3E, 0xAA, 0xAA, 0xAB])) =
      some (some 0x3FD5555560000000#64, some 4) ∧
    bufAfter (exec .float32BePut (one { unit16 with value := 0x3FD5555555555555#66 } [])) =
      some ((List.range 4).zip [0x3E, 0xAA, 0xAA, 0xAB]) ∧
    flush (exec .float32BePutf (one (misfit (0x3FD5555555555555#66) 5 2) [])) =
      some (true, some 2) := by decide

/-- The examples of R282, R283 and R284. -/
theorem test_float64Le :
    result (exec .float64LeGet (one unit16 [0x00, 0x00, 0x00, 0x00, 0x00, 0x00, 0xF0, 0x3F])) =
      some (some 0x3FF0000000000000#64, some 8) ∧
    bufAfter (exec .float64LePut (one { unit16 with value := 0x3FF0000000000000#66 } [])) =
      some ((List.range 8).zip [0x00, 0x00, 0x00, 0x00, 0x00, 0x00, 0xF0, 0x3F]) ∧
    flush (exec .float64LePutf (one (misfit (0x3FF0000000000000#66) 9 2) [])) =
      some (true, some 2) := by decide

/-- The examples of R285, R286 and R287. -/
theorem test_float64Be :
    result (exec .float64BeGet (one unit16 [0x3F, 0xF0, 0x00, 0x00, 0x00, 0x00, 0x00, 0x00])) =
      some (some 0x3FF0000000000000#64, some 8) ∧
    bufAfter (exec .float64BePut (one { unit16 with value := 0x3FF0000000000000#66 } [])) =
      some ((List.range 8).zip [0x3F, 0xF0, 0x00, 0x00, 0x00, 0x00, 0x00, 0x00]) ∧
    flush (exec .float64BePutf (one (misfit (0x3FF0000000000000#66) 9 2) [])) =
      some (true, some 2) := by decide

/-- The examples of R288, R289 and R290. -/
theorem test_float80Le :
    result (exec .float80LeGet (one unit16 [0x00, 0xC0, 0x68, 0x21, 0xA2, 0xDA, 0x0F, 0xC9, 0x00, 0x40])) =
      some (some 0x400921FB54442D18#64, some 10) ∧
    result (exec .float80LeGet (oneImplicit unit16 [0x00, 0xC0, 0x68, 0x21, 0xA2, 0xDA, 0x0F, 0xC9, 0x00, 0x40])) =
      some (some 0x400C90FDAA22168C#64, some 10) ∧
    bufAfter (exec .float80LePut (one { unit16 with value := 0x400921FB54442D18#66 } [])) =
      some ((List.range 10).zip [0x00, 0xC0, 0x68, 0x21, 0xA2, 0xDA, 0x0F, 0xC9, 0x00, 0x40]) ∧
    bufAfter (exec .float80LePut (oneImplicit { unit16 with value := 0x400921FB54442D18#66 } [])) =
      some ((List.range 10).zip [0x00, 0x80, 0xD1, 0x42, 0x44, 0xB5, 0x1F, 0x92, 0x00, 0x40]) ∧
    flush (exec .float80LePutf (one (misfit (0x400921FB54442D18#66) 11 2) [])) =
      some (true, some 2) := by decide

/-- The examples of R291, R292 and R293. -/
theorem test_float80Be :
    result (exec .float80BeGet (one unit16 [0x40, 0x00, 0xC9, 0x0F, 0xDA, 0xA2, 0x21, 0x68, 0xC0, 0x00])) =
      some (some 0x400921FB54442D18#64, some 10) ∧
    result (exec .float80BeGet (oneImplicit unit16 [0x40, 0x00, 0xC9, 0x0F, 0xDA, 0xA2, 0x21, 0x68, 0xC0, 0x00])) =
      some (some 0x400C90FDAA22168C#64, some 10) ∧
    bufAfter (exec .float80BePut (one { unit16 with value := 0x400921FB54442D18#66 } [])) =
      some ((List.range 10).zip [0x40, 0x00, 0xC9, 0x0F, 0xDA, 0xA2, 0x21, 0x68, 0xC0, 0x00]) ∧
    bufAfter (exec .float80BePut (oneImplicit { unit16 with value := 0x400921FB54442D18#66 } [])) =
      some ((List.range 10).zip [0x40, 0x00, 0x92, 0x1F, 0xB5, 0x44, 0x42, 0xD1, 0x80, 0x00]) ∧
    flush (exec .float80BePutf (one (misfit (0x400921FB54442D18#66) 11 2) [])) =
      some (true, some 2) := by decide

/-- The examples of R330, R332 and R333, and R145's. -/
theorem test_spanGet : result (exec .spanGet (one { unit16 with offset := 4, len := 4 } [])) =
    some (some 4, some 8) := by decide

theorem test_spanCopyGet :
    (after (exec .spanCopyGet (one { unit16 with offset := 4, len := 4 }
      [0, 0, 0, 0, 0xDE, 0xAD, 0xBE, 0xEF]))).map CodecUnit.rdata =
    some (some [0xDE, 0xAD, 0xBE, 0xEF]) := by decide

theorem test_ignoreGet :
    result (exec .ignoreGet (one { unit16 with offset := 3, len := 5 } [])) = some (none, some 8) ∧
    status (exec .ignoreGet (one { unit16 with offset := 3, len := 5, bufSize := 7 } [])) =
      some .outOfBounds := by decide

theorem test_len :
    (after (exec (.len (.float .f80 .be)) (one unit16 []))).map CodecUnit.rlen = some (some 10) ∧
    status (exec (.len .span) (one unit16 [])) = some .illegalCommand := by decide

/-- The decimal literals of R271's and R277's examples denote the doubles given there. -/
theorem test_decimalDouble : decimalDouble false 85125 (-3) = 0x4055480000000000#64 ∧
    decimalDouble false 3333333333333333 (-16) = 0x3FD5555555555555#64 ∧
    decimalDouble false 3141592653589793 (-15) = 0x400921FB54442D18#64 ∧
    decimalDouble true 0 0 = 0x8000000000000000#64 ∧ decimalDouble false 1 0 = 0x3FF0000000000000#64 := by
  decide +kernel

/-- Lines as R113 writes them. -/
theorem test_asm_text :
    (AsmLine.get (.int .unsigned .w1 .le) 3).text = "UINT8.get 3" ∧
    (AsmLine.put (.int .signed .w2 .be) 3 (.integer (-7))).text = "INT16_BE.put 3, -7" ∧
    (AsmLine.putf (.float .f16 .le) 15 (.bits 5) true).text = "Float16_LE.putf.nocb 15, bits:0x5" ∧
    (AsmLine.len (.float .f80 .be)).text = "Float80_BE.len" ∧
    (AsmLine.getN .span 4 4).text = "SPAN.get 4, 4" := by
  decide +kernel

/-! ### Errors and the flush (40_contract.md R144, 60_exceptions.md R342) -/

/-- One past the boundary is out of range, and range is checked before bounds (R171, R342). -/
theorem test_priority :
    status (exec .uint8Put (one { unit16 with value := 256 } [])) = some .outOfRange ∧
    status (exec .uint8Put (one { unit16 with value := 256, bufSize := 0 } [])) = some .outOfRange ∧
    status (exec .uint8Put (one { unit16 with value := 255, bufSize := 0 } [])) = some .outOfBounds ∧
    status (exec .uint8Putf (one { unit16 with value := 255, bufSize := 0 } [])) =
      some .noFlushCallback := by decide

/-- The unit of R175's example, waiting for its flush. -/
def waiting : CodecUnit :=
  { unit16 with
    bufSize := 3, offset := 2, value := 4660, flushCb := true, rtag := none, unitState := .flushWait,
    flushReq := true, flushOff := some 2, flushAck := true,
    ctx := some { tok := .int .unsigned .w2 .le, offset := 2, bytes := [0x34, 0x12], bufSize := 3 } }

/-- The second half of R175's example: the bytes at 0, NEXT = 2, DELTA = 0. -/
theorem test_resume : bufAfter (resume 0 (one waiting [])) = some [(0, 0x34), (1, 0x12)] ∧
    (after (resume 0 (one waiting []))).map (fun d => (d.next, d.delta, d.flushReq, d.ctx)) =
      some (some 2, some 0, false, none) := by decide

/-- From reset, a word placed by `withFetchWord` is the command the next step runs (log 5). -/
theorem test_step_from_reset :
    (after (step (State.reset.withFetchWord 32 0x000001AB))).map CodecUnit.rlen = some (some 10) := by decide


/-! ### A concrete case for the hypotheses of each statement

One theorem for each statement that has hypotheses, a boundary value for each of its clauses. -/

theorem witness_IllegalCommands :
    (one { unit16 with cmd := 0x00000200#32 } []).units[0]? = some { unit16 with cmd := 0x00000200#32 } ∧
    unit16.unitState = .idle ∧ unit16.flight = none ∧
    decodeCmd 0x00000200#32 0 = .error .reservedBits := by decide

theorem witness_OpcodeRowsPartition :
    decode 0x0000000C#32 = .ok .spanGet ∧ Instr.spanGet.token = .span ∧
    decode 0x0000018A#32 = .ok .float64BePutf ∧ decode 0x00000100#32 = .error .orderOnOneByte := by decide

theorem witness_TokenLengths :
    decode 0x00000017#32 = .ok (.len .ignore) ∧ (fieldClass 0x00000017#32).toNat = 5 ∧
    decode 0x0000000C#32 = .ok .spanGet ∧ (fieldClass 0x0000000C#32).toNat = 3 ∧
    decode 0x000001AA#32 = .ok .float80BePutf ∧ (fieldClass 0x000001AA#32).toNat = 2 ∧
    decode 0x00000000#32 = .ok .uint8Get ∧ (fieldClass 0x00000000#32).toNat = 0 := by decide

theorem witness_ByteOrderPrimitives : 0xFFFF < 2 ^ (8 * 2) ∧ 0 < 2 ^ (8 * 0) := by decide

theorem witness_MemoryPrimitives :
    Memory.wf [(3, 1), (4, 2)] ∧ 1 < [7, 8].length ∧ 2 < (3 : Nat) ∧ 3 + [7, 8].length ≤ 5 := by
  refine ⟨?_, by decide, by decide, by decide⟩
  simp [Memory.wf]

theorem witness_IntegerEncodeBytes :
    (BitVec.ofInt 66 (-1)).toInt < intLo .unsigned .w1 ∧ intHi .unsigned .w1 < (256#66).toInt ∧
    intLo .unsigned .w1 ≤ (0#66).toInt ∧ (255#66).toInt ≤ intHi .unsigned .w1 ∧
    intLo .signed .w8 ≤ (BitVec.ofInt 66 (-9223372036854775808)).toInt ∧
    intHi .signed .w8 < (9223372036854775808#66).toInt := by decide

theorem witness_ByteOrderSymmetry :
    encodeBytes .x87 (.int .unsigned .w2 .le) 0x1234#66 = .ok [0x34, 0x12] := by decide

theorem witness_SignednessSameBytes :
    (0 : Int) ≤ 127 ∧ (127 : Int) ≤ 2 ^ (8 * IntWidth.w1.bytes - 1) - 1 ∧
    [0x00#8, 0x80#8].length = IntWidth.w2.bytes ∧
    bytePlace .le IntWidth.w2.bytes 1 = IntWidth.w2.bytes - 1 ∧ [0x00#8, 0x80#8][1]? = some 0x80#8 ∧
    bytePlace .be IntWidth.w2.bytes 0 = IntWidth.w2.bytes - 1 ∧ [0x7F#8, 0xFF#8][0]? = some 0x7F#8 := by decide

/-- A unit whose window ends at the last byte of the buffer. -/
def atEnd (n : Nat) : CodecUnit := { unit16 with offset := 16 - n }

theorem witness_UnsignedGetResult :
    Instr.uint16BeGet.op = .get ∧ Instr.uint16BeGet.token = .int .unsigned .w2 .be ∧
    (one (atEnd 2) []).units[(one (atEnd 2) []).active]? = some (atEnd 2) ∧
    (atEnd 2).offset + IntWidth.w2.bytes ≤ (atEnd 2).bufSize := by decide

theorem witness_SignedGetResult :
    Instr.int24LeGet.op = .get ∧ Instr.int24LeGet.token = .int .signed .w3 .le ∧
    (one (atEnd 3) []).units[(one (atEnd 3) []).active]? = some (atEnd 3) ∧
    (atEnd 3).offset + IntWidth.w3.bytes ≤ (atEnd 3).bufSize := by decide

theorem witness_IntegerHostReads :
    Instr.int64BeGet.op = .get ∧ Instr.int64BeGet.token = .int .signed .w8 .be ∧
    Instr.uint64LeGet.op = .get ∧ Instr.uint64LeGet.token = .int .unsigned .w8 .le ∧
    (one (atEnd 8) []).units[(one (atEnd 8) []).active]? = some (atEnd 8) ∧
    (atEnd 8).offset + IntWidth.w8.bytes ≤ (atEnd 8).bufSize := by decide

/-- The least INT16 value, to be written at the end of the buffer. -/
def leastInt16 : CodecUnit := { atEnd 2 with value := BitVec.ofInt 66 (-32768) }

theorem witness_IntegerPutResult :
    Instr.int16LePut.op = .put ∧ Instr.int16LePutf.op = .putf ∧
    Instr.int16LePut.token = .int .signed .w2 .le ∧ Instr.int16LePutf.token = .int .signed .w2 .le ∧
    (one leastInt16 []).units[(one leastInt16 []).active]? = some leastInt16 ∧
    intLo .signed .w2 ≤ leastInt16.value.toInt ∧ leastInt16.value.toInt ≤ intHi .signed .w2 ∧
    leastInt16.offset + IntWidth.w2.bytes ≤ leastInt16.bufSize := by decide

theorem witness_IntegerRoundTrip :
    Instr.int16LePut.op = .put ∧ Instr.int16LeGet.op = .get ∧
    Instr.int16LePut.token = .int .signed .w2 .le ∧ Instr.int16LeGet.token = .int .signed .w2 .le ∧
    (one leastInt16 []).units[(one leastInt16 []).active]? = some leastInt16 ∧
    intLo .signed .w2 ≤ leastInt16.value.toInt ∧ leastInt16.value.toInt ≤ intHi .signed .w2 ∧
    leastInt16.offset + IntWidth.w2.bytes ≤ leastInt16.bufSize ∧
    intEncode .signed .w2 .le (-32768) = .ok [0x00, 0x80] ∧
    [0x00#8, 0x80#8].length = IntWidth.w2.bytes := by decide

theorem witness_BinaryLayouts :
    31 < 2 ^ binary16.expBits ∧ 1023 < 2 ^ binary16.fracBits ∧ 31 = binary16.maxExp ∧
    0 < 2 ^ binary16.expBits ∧ 1 ≠ binary16.maxExp ∧
    binary16.emin ≤ 15 ∧ 15 ≤ binary16.emax ∧ 2047 < 2 ^ binary16.precision ∧
    2 ^ (binary16.precision - 1) ≤ 2047 ∧ 1023 < 2 ^ (binary16.precision - 1) := by decide

/-- At the overflow threshold of Float16, below it, and a tie with a pattern on each side. -/
theorem witness_PackNearestEven :
    (2 : ℚ) ^ (binary16.emax + 1) - 2 ^ (binary16.emax - binary16.precision) ≤ (65520 : Nat) * 2 ^ (0 : Int) ∧
    ((2049 : Nat) : ℚ) * 2 ^ (0 : Int) <
      (2 : ℚ) ^ (binary16.emax + 1) - 2 ^ (binary16.emax - binary16.precision) ∧
    (unpackBin binary16 0x6800).toRat = some 2048 ∧ (unpackBin binary16 0x6801).toRat = some 2050 := by
  have h₁ : unpackBin binary16 0x6800 = .fin false 1024 1 := by decide
  have h₂ : unpackBin binary16 0x6801 = .fin false 1025 1 := by decide
  rw [h₁, h₂]
  norm_num [binary16, BinaryFormat.emax, BinaryFormat.precision, FloatClass.toRat]

/-- 1.5 * 2^-25 lies between the thresholds, 3 * 2^-25 is the tie. -/
theorem witness_EncodeThresholds :
    doubleClass 0x3E68000000000000#64 = .fin false (2 ^ 52 + 2 ^ 51) (-77) ∧
    (2 : ℚ) ^ (-25 : Int) < ((2 ^ 52 + 2 ^ 51 : Nat) : ℚ) * 2 ^ (-77 : Int) ∧
    ((2 ^ 52 + 2 ^ 51 : Nat) : ℚ) * 2 ^ (-77 : Int) < 3 * 2 ^ (-25 : Int) ∧
    doubleClass 0x3E78000000000000#64 = .fin false (2 ^ 52 + 2 ^ 51) (-76) ∧
    ((2 ^ 52 + 2 ^ 51 : Nat) : ℚ) * 2 ^ (-76 : Int) = 3 * 2 ^ (-25 : Int) := by
  refine ⟨by decide, ?_, ?_, by decide, ?_⟩ <;> norm_num

/-- The four thresholds of R265 themselves: 65520, 2^-25, 2^128 - 2^103 and 2^-150. -/
theorem witness_EncodeThresholds_boundaries :
    doubleClass 0x40EFFE0000000000#64 = .fin false 9005000231485440 (-37) ∧
    (65520 : ℚ) = (9005000231485440 : Nat) * 2 ^ (-37 : Int) ∧
    doubleClass 0x3E60000000000000#64 = .fin false (2 ^ 52) (-77) ∧
    ((2 ^ 52 : Nat) : ℚ) * 2 ^ (-77 : Int) = 2 ^ (-25 : Int) ∧
    doubleClass 0x47EFFFFFF0000000#64 = .fin false (2 ^ 53 - 2 ^ 28) 75 ∧
    (2 : ℚ) ^ (128 : Nat) - 2 ^ (103 : Nat) = ((2 ^ 53 - 2 ^ 28 : Nat) : ℚ) * 2 ^ (75 : Int) ∧
    doubleClass 0x3690000000000000#64 = .fin false (2 ^ 52) (-202) ∧
    ((2 ^ 52 : Nat) : ℚ) * 2 ^ (-202 : Int) = 2 ^ (-150 : Int) := by
  refine ⟨by decide, ?_, by decide, ?_, by decide, ?_, by decide, ?_⟩ <;> norm_num

theorem witness_Float80Decode :
    0x7FFF < 2 ^ 15 ∧ 0xFFFFFFFFFFFFFFFF < 2 ^ 64 ∧ 0x8000000000000000 < 2 ^ 64 ∧
    (0x7FFE : Nat) ≠ 0x7FFF ∧ (0x8000000000000001 : Nat) ≠ 0x8000000000000000 := by decide

theorem witness_Float80Encode :
    doubleClass 0x7FF0000000000001#64 = .nan ∧ doubleClass 0xFFF0000000000000#64 = .inf true ∧
    doubleClass 0x8000000000000000#64 = .zero true ∧
    doubleClass 0x0000000000000001#64 = .fin false 1 (-1074) ∧
    doubleClass 0xFFEFFFFFFFFFFFFF#64 = .fin true (2 ^ 53 - 1) 971 := by decide

theorem witness_SpecialValues :
    unpackBin binary16 0x7C01 = .nan ∧ unpackBin binary32 0xFFFFFFFF = .nan ∧
    dec80 .x87 (fields80 true 0x7FFF 0) = .nan ∧ dec80 .implicit (fields80 true 0x7FFF 1) = .nan ∧
    doubleClass 0xFFF8000000000000#64 = .nan ∧
    unpackBin binary16 0xFC00 = .inf true ∧ unpackBin binary16 0x8000 = .zero true ∧
    unpackBin binary32 0xFF800000 = .inf true ∧ unpackBin binary32 0x80000000 = .zero true ∧
    dec80 .x87 (fields80 true 0x7FFF 0x8000000000000000) = .inf true ∧
    dec80 .implicit (fields80 true 0x7FFF 0) = .inf true ∧ dec80 .x87 (fields80 true 1 0) = .zero true ∧
    doubleClass 0xFFF0000000000000#64 = .inf true ∧ doubleClass 0x8000000000000000#64 = .zero true ∧
    doubleClass 0x40EFFE0000000000#64 = .fin false 9005000231485440 (-37) ∧
    (9005000231485440 : Nat) = 65520 * 2 ^ 37 ∧
    doubleClass 0x47F0000000000000#64 = .fin false (2 ^ 52) 76 := by decide

theorem witness_FloatGetResult :
    Instr.float80BeGet.op = .get ∧ Instr.float80BeGet.token = .float .f80 .be ∧
    (one (atEnd 10) []).units[(one (atEnd 10) []).active]? = some (atEnd 10) ∧
    (atEnd 10).offset + FloatFormat.f80.bytes ≤ (atEnd 10).bufSize := by decide

theorem witness_FloatPutResult :
    Instr.float32LePut.op = .put ∧ Instr.float32LePutf.op = .putf ∧
    Instr.float32LePut.token = .float .f32 .le ∧ Instr.float32LePutf.token = .float .f32 .le ∧
    (one (atEnd 4) []).units[(one (atEnd 4) []).active]? = some (atEnd 4) ∧
    (atEnd 4).offset + FloatFormat.f32.bytes ≤ (atEnd 4).bufSize := by decide

/-- The least positive double, to be written at the end of the buffer. -/
def leastDouble : CodecUnit := { atEnd 10 with value := 1 }

theorem witness_FloatPutThenGet :
    Instr.float80LePut.op = .put ∧ Instr.float80LeGet.op = .get ∧
    Instr.float80LePut.token = .float .f80 .le ∧ Instr.float80LeGet.token = .float .f80 .le ∧
    Instr.float16LePut.token = .float .f16 .le ∧ Instr.float32LePut.token = .float .f32 .le ∧
    (one leastDouble []).units[(one leastDouble []).active]? = some leastDouble ∧
    leastDouble.offset + FloatFormat.f80.bytes ≤ leastDouble.bufSize ∧
    doubleClass (leastDouble.value.extractLsb' 0 64) ≠ .nan := by decide

/-- A buffer of sixteen bytes FF, which is a NaN in every format, and one of zeros. -/
theorem witness_FloatGetThenPut :
    Instr.float16LeGet.op = .get ∧ Instr.float16LePut.op = .put ∧
    Instr.float16LeGet.token = .float .f16 .le ∧ Instr.float16LePut.token = .float .f16 .le ∧
    (one unit16 (List.replicate 16 0xFF)).units[(one unit16 (List.replicate 16 0xFF)).active]? =
      some unit16 ∧
    unit16.offset + FloatFormat.f16.bytes ≤ unit16.bufSize ∧ FloatFormat.f16 ≠ .f80 ∧
    unpackBin binary16 (windowValue .le (one unit16 (List.replicate 16 0xFF)).buf 0 2) = .nan ∧
    unpackBin binary16 (windowValue .le (one unit16 (List.replicate 16 0)).buf 0 2) ≠ .nan ∧
    unpackBin binary32 (windowValue .le (one unit16 (List.replicate 16 0xFF)).buf 0 4) = .nan ∧
    unpackBin binary32 (windowValue .le (one unit16 (List.replicate 16 0)).buf 0 4) ≠ .nan := by decide

/-- A unit with a window of `n` bytes at `o` for a span, span-copy or ignore command. -/
def spanUnit (o n : Nat) : CodecUnit := { unit16 with offset := o, len := n }

/-- The three cases of each of the three commands: LEN = 0, one byte too many, the whole buffer. -/
theorem witness_SpanGet :
    (one (spanUnit 0 0) []).units[(one (spanUnit 0 0) []).active]? = some (spanUnit 0 0) ∧
    (spanUnit 0 0).len = 0 ∧
    (one (spanUnit 1 16) []).units[(one (spanUnit 1 16) []).active]? = some (spanUnit 1 16) ∧
    (spanUnit 1 16).bufSize < (spanUnit 1 16).offset + (spanUnit 1 16).len ∧
    (one (spanUnit 0 16) []).units[(one (spanUnit 0 16) []).active]? = some (spanUnit 0 16) ∧
    (spanUnit 0 16).len ≠ 0 ∧
    (spanUnit 0 16).offset + (spanUnit 0 16).len ≤ (spanUnit 0 16).bufSize := by decide

theorem witness_SpanCopyGet :
    (one (spanUnit 0 0) []).units[(one (spanUnit 0 0) []).active]? = some (spanUnit 0 0) ∧
    (spanUnit 0 0).len = 0 ∧
    (spanUnit 1 16).bufSize < (spanUnit 1 16).offset + (spanUnit 1 16).len ∧
    (one (spanUnit 0 16) []).units[(one (spanUnit 0 16) []).active]? = some (spanUnit 0 16) ∧
    (spanUnit 0 16).len ≠ 0 ∧
    (spanUnit 0 16).offset + (spanUnit 0 16).len ≤ (spanUnit 0 16).bufSize ∧
    (Move.bufWrite 15 1).unit? ≠ some (one (spanUnit 0 16) []).active ∧
    (bufAfter (runMoves [.bufWrite 15 1] (afterStep (exec .spanCopyGet (one (spanUnit 0 16) []))))).isSome := by
  decide

theorem witness_IgnoreGet :
    (one (spanUnit 0 0) []).units[(one (spanUnit 0 0) []).active]? = some (spanUnit 0 0) ∧
    (spanUnit 0 0).len = 0 ∧
    (spanUnit 1 16).bufSize < (spanUnit 1 16).offset + (spanUnit 1 16).len ∧
    (one (spanUnit 0 16) []).units[(one (spanUnit 0 16) []).active]? = some (spanUnit 0 16) ∧
    (spanUnit 0 16).offset + (spanUnit 0 16).len ≤ (spanUnit 0 16).bufSize := by decide

theorem witness_LengthCommand :
    (Token.float .f80 .be).wellFormed = true ∧ (Token.int .signed .w1 .be).wellFormed = false ∧
    (Token.int .signed .w1 .le).wellFormed = true ∧
    (one (spanUnit 0 0) []).units[(one (spanUnit 0 0) []).active]? = some (spanUnit 0 0) ∧
    (spanUnit 0 0).len = 0 ∧
    (one (spanUnit 0 1) []).units[(one (spanUnit 0 1) []).active]? = some (spanUnit 0 1) ∧
    (spanUnit 0 1).len ≠ 0 := by decide

theorem witness_FitsCornerCases :
    1 ≤ 1 ∧ 1 ≤ (1 : Nat) ∧ (0 : Nat) < 1 ∧ 2 ^ 32 - 1 < 2 ^ Config.params.offsetBits := by decide

theorem badValue_uint8 (v : ValueWord) (h : 255 < v.toInt) : BadValue .uint8Put v :=
  ⟨.inl rfl, .unsigned, .w1, .le, rfl, .inr (by simpa [intHi, IntWidth.bytes] using h)⟩

theorem goodValue_get (i : Instr) (h : i.op = .get) (v : ValueWord) : ¬BadValue i v := by
  rintro ⟨h' | h', -⟩ <;> rw [h] at h' <;> cases h'

theorem goodValue_float (i : Instr) (f : FloatFormat) (order : ByteOrder) (h : i.token = .float f order)
    (v : ValueWord) : ¬BadValue i v := by
  rintro ⟨-, sg, w, o, h', -⟩
  rw [h] at h'
  cases h'

theorem witness_OutOfBounds :
    Instr.spanGet.op = .get ∧ Instr.spanGet.token = .span ∧ (spanUnit 1 16).len ≠ 0 ∧
    (one (spanUnit 1 16) []).units[(one (spanUnit 1 16) []).active]? = some (spanUnit 1 16) ∧
    ¬BadValue .spanGet (spanUnit 1 16).value ∧
    (spanUnit 1 16).bufSize < (spanUnit 1 16).offset + Instr.spanGet.token.length (spanUnit 1 16).len ∧
    Instr.float16LePut.op = .put ∧ ¬BadValue .float16LePut (spanUnit 15 0).value ∧
    (spanUnit 15 0).bufSize <
      (spanUnit 15 0).offset + Instr.float16LePut.token.length (spanUnit 15 0).len :=
  ⟨rfl, rfl, by decide, by decide, goodValue_get _ rfl _, by decide, rfl,
    goodValue_float _ .f16 .le rfl _, by decide⟩

theorem witness_OutOfRange :
    (one { unit16 with value := 256 } []).units[0]? = some { unit16 with value := 256 } ∧
    BadValue .uint8Put 256 :=
  ⟨by decide, badValue_uint8 _ (by decide)⟩

/-- A `putf` of a double that misses the buffer by one byte, without a callback. -/
def noCallback : CodecUnit := { unit16 with offset := 15 }

theorem witness_NoFlushCallback :
    Instr.float16LePutf.op = .putf ∧
    (one noCallback []).units[(one noCallback []).active]? = some noCallback ∧
    ¬BadValue .float16LePutf noCallback.value ∧ noCallback.flushCb = false ∧
    noCallback.bufSize < noCallback.offset + Instr.float16LePutf.token.length noCallback.len ∧
    noCallback.flight = none :=
  ⟨rfl, by decide, goodValue_float _ .f16 .le rfl _, rfl, by decide, rfl⟩

/-- Idle units for the paths of an issue: an illegal word, a value out of range, a fit, a misfit of a `get`,
of a `putf` without a callback, and of a `putf` with one, with and without room after the flush. -/
theorem witness_ErrorPriority :
    unit16.unitState = .idle ∧ unit16.flight = none ∧ (one unit16 []).units[0]? = some unit16 ∧
    decodeCmd 0x0000000C#32 0 = .error .zeroLength ∧ decodeCmd 0x00000001#32 0 = .ok .uint8Put ∧
    BadValue .uint8Put 256 ∧ decodeCmd 0x00000000#32 0 = .ok .uint8Get ∧
    ¬BadValue .uint8Get 0 ∧ 15 + Instr.uint8Get.token.length 0 ≤ unit16.bufSize ∧
    unit16.bufSize < 16 + Instr.uint8Get.token.length 0 ∧
    decodeCmd 0x0000002A#32 0 = .ok .float16LePutf ∧ ¬BadValue .float16LePutf 0 ∧
    unit16.bufSize < 15 + Instr.float16LePutf.token.length 0 ∧
    Instr.float16LePutf.token.length 0 ≤ unit16.bufSize ∧
    1 < Instr.float16LePutf.token.length 0 :=
  ⟨rfl, rfl, by decide, by decide, by decide, badValue_uint8 _ (by decide), by decide,
    goodValue_get _ rfl _, by decide, by decide, by decide, goodValue_float _ .f16 .le rfl _, by decide,
    by decide, by decide⟩

/-- A unit of one byte that waits with two bytes to write. -/
def noRoom : CodecUnit :=
  { waiting with ctx := some { tok := .int .unsigned .w2 .le, offset := 2, bytes := [0x34, 0x12], bufSize := 1 } }

theorem witness_ErrorsPrecise :
    (one { unit16 with cmd := 0x200#32 } []).units[0]? = some { unit16 with cmd := 0x200#32 } ∧
    (after (issue 0 (one { unit16 with cmd := 0x200#32 } []))).map (fun d => (d.unitState, d.status)) =
      some (.idle, .illegalCommand) ∧
    (one noRoom []).units[0]? = some noRoom ∧ noRoom.ctx.isSome ∧ noRoom.unitState = .flushWait ∧
    noRoom.flushAck = true ∧ status (resume 0 (one noRoom [])) = some .flushNoRoom := by decide

/-- The issue of R175's example, then host writes over the window, then the answer: with room and without. -/
theorem witness_FlushHandshake :
    Instr.uint16LePutf.op = .putf ∧
    (one (misfit 4660 3 2) []).units[(one (misfit 4660 3 2) []).active]? = some (misfit 4660 3 2) ∧
    encodeBytes .x87 Instr.uint16LePutf.token (misfit 4660 3 2).value = .ok [0x34, 0x12] ∧
    (misfit 4660 3 2).bufSize < (misfit 4660 3 2).offset + [0x34#8, 0x12#8].length ∧
    (misfit 4660 3 2).flushCb = true ∧
    (Move.bufWrite 0 7).unit? ≠ some (one (misfit 4660 3 2) []).active ∧
    (bufAfter (runMoves [.bufWrite 0 7, .readReg 0 .flushOff, .bufWrite 2 9]
      (afterStep (exec .uint16LePutf (one (misfit 4660 3 2) []))))).isSome ∧
    [0x34#8, 0x12#8].length ≤ (misfit 4660 3 2).bufSize ∧
    (misfit 4660 1 0).bufSize < (misfit 4660 1 0).offset + [0x34#8, 0x12#8].length ∧
    (misfit 4660 1 0).bufSize < [0x34#8, 0x12#8].length := by decide

/-- A unit that waits and is not acknowledged. -/
def unanswered : CodecUnit := { waiting with flushAck := false }

theorem witness_WaitingUnitStays :
    (one unanswered []).units[0]? = some unanswered ∧ unanswered.unitState = .flushWait ∧
    unanswered.flushAck = false ∧ unanswered.flight = none ∧
    (∀ m ∈ [Move.resume 0, .bufWrite 0 7, .readReg 0 .flushOff],
      m ≠ .writeReg 0 (.flushAck true) ∧ m ≠ .reset 0) ∧
    (bufAfter (runMoves [.resume 0, .bufWrite 0 7, .readReg 0 .flushOff] (one unanswered []))).isSome := by
  decide

theorem witness_IssueRefusedInFlushWait :
    (two unanswered unit16 []).units[0]? = some unanswered ∧ unanswered.unitState = .flushWait ∧
    (two unanswered unit16 []).units[1]? = some unit16 ∧ unit16.unitState = .idle ∧
    unit16.flight = none ∧ 1 ≠ 0 := by decide

theorem witness_EndsInTwoSteps :
    (one unit16 []).units[0]? = some unit16 ∧ unit16.unitState = .idle ∧ unit16.flight = none := by decide

theorem witness_LengthConsistent :
    (one (spanUnit 12 4) []).units[(one (spanUnit 12 4) []).active]? = some (spanUnit 12 4) ∧
    Token.span.wellFormed = true ∧ (spanUnit 12 4).len ≠ 0 ∧
    Instr.spanGet.token = .span ∧ Instr.spanGet.op ≠ .length ∧
    (after (exec .spanGet (one (spanUnit 12 4) []))).map (fun d => (d.unitState, d.status)) =
      some (.idle, .ok) ∧
    Instr.uint16LePutf.op ≠ .length ∧
    (after (exec .uint16LePutf (one (misfit 4660 3 2) []))).map CodecUnit.unitState =
      some .flushWait := by decide

theorem witness_GetsLeaveBuf :
    Instr.spanCopyGet.op = .get ∧
    (one (spanUnit 12 4) []).units[(one (spanUnit 12 4) []).active]? = some (spanUnit 12 4) := by decide

theorem witness_EncodesWriteOnlyWindow :
    Instr.int16LePut.op = .put ∧ (one leastInt16 []).units[(one leastInt16 []).active]? = some leastInt16 ∧
    status (exec .int16LePut (one leastInt16 [])) = some .ok ∧
    status (exec .uint16LePut (one leastInt16 [])) = some .outOfRange ∧
    (after (exec .uint16LePutf (one (misfit 4660 3 2) []))).map CodecUnit.unitState =
      some .flushWait ∧
    (one waiting []).units[0]? = some waiting ∧ waiting.ctx.isSome ∧ waiting.unitState = .flushWait ∧
    waiting.flushAck = true ∧ status (resume 0 (one waiting [])) = some .ok ∧
    status (resume 0 (one noRoom [])) = some .flushNoRoom := by decide

/-- Two states that agree on the request registers and on the window, and on nothing else. -/
theorem witness_Statelessness :
    (one { spanUnit 1 2 with status := .outOfRange } [9, 1, 2, 9]).params.layout =
      (one (spanUnit 1 2) [7, 1, 2, 7]).params.layout ∧
    CodecUnit.SameRequest { spanUnit 1 2 with status := .outOfRange } (spanUnit 1 2) ∧
    (∀ a, 1 ≤ a → a < 1 + Instr.spanCopyGet.token.length 2 →
      (one { spanUnit 1 2 with status := .outOfRange } [9, 1, 2, 9]).buf.read a =
        (one (spanUnit 1 2) [7, 1, 2, 7]).buf.read a) ∧
    (one waiting []).units[0]? = some waiting ∧ waiting.ctx.isSome ∧ waiting.resumable = true := by
  refine ⟨rfl, by simp [CodecUnit.SameRequest], fun a h₁ h₂ => ?_, by decide, by decide, by decide⟩
  have h₃ : a < 3 := h₂
  obtain rfl | rfl : a = 1 ∨ a = 2 := by omega
  · rfl
  · rfl

theorem witness_StepRunsDecoded :
    ({ one unit16 [] with sched := [.issue 0] } : State).sched = .issue 0 :: [] ∧
    (one unit16 []).units[0]? = some unit16 ∧ unit16.unitState = .idle ∧ unit16.flight = none ∧
    decode unit16.cmd = .ok .uint8Get ∧ decodeTableWord 32 0x000001AB = some (.len (.float .f80 .be)) ∧
    State.reset.units[0]? = some CodecUnit.reset := by decide

theorem witness_InvReset : Config.params.wf ∧
    ({ offsetBits := 4, nUnits := 1, layout := .implicit } : Params).wf ∧
    ({ offsetBits := 64, nUnits := 3, layout := .x87 } : Params).wf := by decide

/-- An idle unit with a LENGTH command to issue, which keeps to the invariant, and whose issue is the next move. -/
def lengthToIssue : State :=
  { one { unit16 with cmd := 0x000001AB#32 } [7, 8] with sched := [.issue 0] }

theorem witness_InvStep : State.Inv lengthToIssue ∧ ∃ t, step lengthToIssue = .next t := by
  refine ⟨⟨by decide, rfl, ?_, ?_, by simp [lengthToIssue, one, State.reset, State.resetWith]⟩, _, rfl⟩
  · simp [lengthToIssue, one, Memory.wf, List.range_succ]
  · intro c hc
    obtain rfl : c = { unit16 with cmd := 0x000001AB#32 } := by simpa [lengthToIssue, one] using hc
    have h : ({ unit16 with cmd := 0x000001AB#32 } : CodecUnit).response? = some noFields := rfl
    constructor <;> simp [h] <;>
      simp [unit16, CodecUnit.reset, lengthToIssue, one, State.reset, State.resetWith, Config.params,
        Response.Wf, noFields]

theorem witness_OtherUnitsUntouched :
    (∃ t, runMove (.issue 0) (two unit16 unanswered []) = .next t) ∧ (Move.issue 0).unit? ≠ some 1 :=
  ⟨⟨_, rfl⟩, by decide⟩

theorem witness_StatusWrittenAtEnd :
    (two unit16 unit16 []).units[0]? = some unit16 ∧
    status (runMove (.issue 0) (one { unit16 with cmd := 0x200#32 } [])) = some .illegalCommand ∧
    status (runMove (.reset 0) (one { unit16 with status := .outOfRange } [])) = some .ok := by decide

theorem witness_ResetUnit : (one waiting [1, 2, 3]).units[0]? = some waiting := by decide

theorem witness_FlushAckRules :
    (one unit16 []).units[0]? = some unit16 ∧ unit16.unitState = .idle ∧ unit16.flight = none ∧
    (one waiting []).units[0]? = some waiting ∧ waiting.unitState = .flushWait ∧ waiting.ctx.isSome ∧
    waiting.flushAck = true := by decide

theorem witness_HostAccess :
    (one unit16 []).units[0]? = some unit16 ∧ unit16.unitState = .idle ∧
    2 ^ 32 - 1 < 2 ^ (one unit16 []).params.offsetBits ∧ 2 ^ (one unit16 []).params.offsetBits ≤ 2 ^ 32 ∧
    15 < unit16.bufSize ∧ (∀ d ∈ (one unit16 []).units, d.bufSize ≤ 16) ∧
    waiting.unitState = .flushWait ∧
    (bufAfter (hostWriteReg 0 (.flushAck true) (one waiting []))).isSome := by decide

/-- A unit every register of which holds a value. -/
def fullUnit : CodecUnit :=
  { unit16 with
    rtag := some .bytes, result := some 1, rlen := some 2, rdata := some [3, 4], next := some 5,
    delta := some (-6), flushOff := some 7, flushCb := true, flushReq := true, flushAck := true }

/-- Every register absent or present, every STATUS, RTAG and UNIT_STATE. -/
theorem witness_AbsentReads :
    (one unit16 []).units[0]? = some unit16 ∧ unit16.unitState = .idle ∧ unit16.status = .ok ∧
    unit16.rtag = some .noValue ∧ unit16.result = none ∧ unit16.rlen = none ∧
    unit16.rdata = none ∧ unit16.next = none ∧ unit16.delta = none ∧ unit16.flushOff = none ∧
    (one waiting []).units[0]? = some waiting ∧ waiting.unitState = .flushWait ∧ waiting.rtag = none ∧
    (one fullUnit []).units[0]? = some fullUnit ∧ fullUnit.result = some 1 ∧ fullUnit.rlen = some 2 ∧
    fullUnit.rdata = some [3, 4] ∧ fullUnit.next = some 5 ∧ fullUnit.delta = some (-6) ∧
    fullUnit.flushOff = some 7 ∧
    (∀ e ∈ [Status.illegalCommand, .outOfRange, .outOfBounds, .noFlushCallback, .flushNoRoom,
      .invalidEncodingByte, .malformedSequence],
      (one { unit16 with status := e } []).units[0]? = some { unit16 with status := e }) ∧
    ∀ g ∈ [RTag.uint, .sint, .float, .view, .bytes, .length],
      (one { unit16 with rtag := some g } []).units[0]? = some { unit16 with rtag := some g } := by decide

theorem witness_ViewAccess :
    (one (spanUnit 12 4) []).units[(one (spanUnit 12 4) []).active]? = some (spanUnit 12 4) ∧
    (spanUnit 12 4).len ≠ 0 ∧ (spanUnit 12 4).offset + (spanUnit 12 4).len ≤ (spanUnit 12 4).bufSize ∧
    (spanUnit 12 4).offset < 2 ^ 64 ∧
    ({ one unit16 [] with views := [{ base := 12, len := 4 }] } : State).views[0]? =
      some { base := 12, len := 4 } ∧
    3 < ({ base := 12, len := 4 } : SpanView).len ∧ ({ base := 12, len := 4 } : SpanView).len ≤ 4 ∧
    (bufAfter (runMove (.reset 0)
      ({ one unit16 [] with views := [{ base := 12, len := 4 }] } : State))).isSome := by decide

theorem witness_ViewAgreesWithCopy :
    (one (spanUnit 0 16) []).units[(one (spanUnit 0 16) []).active]? = some (spanUnit 0 16) ∧
    (spanUnit 0 16).len ≠ 0 ∧
    (spanUnit 0 16).offset + (spanUnit 0 16).len ≤ (spanUnit 0 16).bufSize ∧
    (spanUnit 0 16).offset < 2 ^ 64 ∧
    (Move.bufWrite 0 7).unit? ≠ some (one (spanUnit 0 16) []).active ∧
    (bufAfter (runMoves [.bufWrite 0 7] (one (spanUnit 0 16) []))).isSome := by decide

theorem witness_AssembledLines :
    (AsmLine.putf (.float .f16 .be) 14 (.bits 0) true).wellFormed = true ∧
    (AsmLine.putf (.float .f16 .be) 14 (.bits 0) true).command? = some (.putf, .float .f16 .be) ∧
    (one unit16 []).units[0]? = some unit16 ∧ unit16.unitState = .idle ∧ unit16.flight = none ∧
    ((AsmLine.putf (.float .f16 .be) (2 ^ 32 - 1) (.bits 0) true).operands unit16).offset <
      2 ^ (one unit16 []).params.offsetBits ∧
    ((AsmLine.putf (.float .f16 .be) 14 (.bits 0) true).operands unit16).len <
      2 ^ (one unit16 []).params.offsetBits ∧
    (AsmLine.lenN .span 1).wellFormed = true ∧ (AsmLine.lenN .span 1).command? = some (.length, .span) ∧
    (one unit16 []).inBuf (14 + 1) = true ∧ 1 < [0xAB#8, 0xCD#8].length := by decide

/-- Two units; the first has a 2-byte `put` to run, and in the second clause a flush to finish. -/
theorem witness_SplitInAnyOrder :
    1 < (two unit16 unit16 []).params.nUnits ∧ Memory.wf (two unit16 unit16 []).buf ∧
    (two { unit16 with cmd := 0x21#32, value := 0x1234 } unit16 []).units[0]? =
      some { unit16 with cmd := 0x21#32, value := 0x1234 } ∧
    unit16.unitState = .idle ∧ unit16.flight = none ∧ decode 0x21#32 = .ok .uint16LePut ∧
    [1, 0].Perm (List.range (Instr.uint16LePut.token.length 0)) ∧
    (two waiting unit16 []).units[0]? = some waiting ∧ waiting.ctx.isSome ∧ waiting.resumable = true ∧
    waiting.flight = none :=
  ⟨by decide, List.Pairwise.nil, by decide, by decide, by decide, by decide, by decide, by decide,
    by decide, by decide, by decide⟩

/-- A unit that has begun an encode of `bs` at `a`. -/
def writing (a : Nat) (bs : List Byte) : CodecUnit :=
  { unit16.markAbsent with flight := some (.write a a bs (List.range bs.length)) }

/-- A unit that has begun a two-byte `get` at `a`. -/
def reading (a : Nat) : CodecUnit :=
  { unit16.markAbsent with flight := some (.read (.int .unsigned .w2 .le) a (List.replicate 2 none)) }

/-- Windows [0, 2) and [1, 3) share the byte at 1. -/
theorem witness_RaceOutcomes : 0 ≠ 1 ∧
    (two (writing 0 [1, 2]) (writing 1 [3, 4]) []).units[0]? = some (writing 0 [1, 2]) ∧
    (two (writing 0 [1, 2]) (writing 1 [3, 4]) []).units[1]? = some (writing 1 [3, 4]) ∧
    (writing 0 [1, 2]).flight = some (.write 0 0 [1, 2] (List.range [1#8, 2#8].length)) ∧
    0 + 1 = 1 + 0 ∧ 1 < [1#8, 2#8].length ∧ 0 < [3#8, 4#8].length ∧
    (after (runMoves [.access 0 0, .access 1 0, .access 0 1, .access 1 1]
      (two (writing 0 [1, 2]) (writing 1 [3, 4]) []))).map CodecUnit.flight =
      some (some (.write 0 0 [1, 2] [])) ∧
    (reading 0).flight = some (.read (.int .unsigned .w2 .le) 0 (List.replicate 2 none)) ∧
    (after (runMoves [.access 1 0, .access 0 0, .access 0 1, .access 1 1]
      (two (reading 0) (writing 1 [3, 4]) [5, 6]))).map CodecUnit.flight =
      some (some (.read (.int .unsigned .w2 .le) 0 [some 5, some 3])) := by decide

/-- The host writes byte 1 of the unit's window through BUF and byte 2 of it through a view, and reads byte 1. -/
def besideHost (c : CodecUnit) : State :=
  { one c [5, 6, 7] with views := [{ base := 0, len := 4 }] }

theorem witness_RaceOutcomes_host :
    (besideHost (writing 0 [1, 2, 3])).units[0]? = some (writing 0 [1, 2, 3]) ∧
    (writing 0 [1, 2, 3]).flight = some (.write 0 0 [1, 2, 3] (List.range [1#8, 2#8, 3#8].length)) ∧
    HostWrites (besideHost (writing 0 [1, 2, 3])) 1 [8, 9] [.bufWrite 1 8, .viewWrite 0 2 9] ∧
    0 + 1 = 1 + 0 ∧ 0 + 2 = 1 + 1 ∧
    (besideHost (reading 0)).units[0]? = some (reading 0) ∧
    HostWrites (besideHost (reading 0)) 1 [8, 9] [.bufWrite 1 8, .viewWrite 0 2 9] ∧
    [1#8, 2#8, 3#8][1]? = some 2#8 ∧
    HostReadsByte (besideHost (writing 0 [1, 2, 3])) (0 + 1) (.bufRead 1) ∧
    HostReadsByte (besideHost (writing 0 [1, 2, 3])) (0 + 1) (.viewRead 0 1) := by
  have h : ∀ c : CodecUnit, c.bufSize = 16 →
      HostWrites (besideHost c) 1 [8, 9] [.bufWrite 1 8, .viewWrite 0 2 9] := by
    intro c hc
    refine ⟨rfl, fun k b m hb hm => ?_⟩
    match k with
    | 0 => cases hb; cases hm; exact .inl ⟨rfl, by simp [besideHost, one, State.inBuf, hc]⟩
    | 1 => cases hb; cases hm; exact .inr ⟨0, 2, { base := 0, len := 4 }, rfl, rfl, by decide, rfl⟩
    | k + 2 => cases hb
  exact ⟨by decide, by decide, h _ rfl, rfl, rfl, by decide, h _ rfl, by decide,
    .inl ⟨rfl, by decide⟩, .inr ⟨0, 1, { base := 0, len := 4 }, rfl, rfl, by decide, rfl⟩⟩

end Sys2Proof.Tests
end

