-- ==== Sys2Proof/Proofs/ScopePrimitives.lean ====
section
/-! SUPPORT. What the byte-order primitives compute and how MemRead and MemWrite see BUF (spec/00_scope.md R12,
R13), and the two statements that rest on them. -/

namespace Sys2Proof

/-! ### assemble as a weighted sum (R13) -/

theorem assembleLE_eq_sum (bs : List Byte) :
    assembleLE bs = ∑ i ∈ Finset.range bs.length, (bs.getD i 0).toNat * 256 ^ i := by
  induction bs with
  | nil => rfl
  | cons b bs ih =>
    have shift : 256 * assembleLE bs =
        ∑ i ∈ Finset.range bs.length, ((b :: bs).getD (i + 1) 0).toNat * 256 ^ (i + 1) := by
      rw [ih, Finset.mul_sum]
      refine Finset.sum_congr rfl fun i _ => ?_
      rw [List.getD_cons_succ, pow_succ']
      exact mul_left_comm _ _ _
    rw [assembleLE, shift, List.length_cons, Finset.sum_range_succ']
    simp [add_comm]

/-- The big-endian sum is the little-endian one of the reversed list, read from the other end. -/
theorem assembleBE_eq_sum (bs : List Byte) :
    assembleBE bs = ∑ i ∈ Finset.range bs.length, (bs.getD i 0).toNat * 256 ^ (bs.length - 1 - i) := by
  rw [assembleBE, assembleLE_eq_sum, List.length_reverse, ← Finset.sum_range_reflect]
  refine Finset.sum_congr rfl fun i hi => ?_
  have hi : i < bs.length := Finset.mem_range.mp hi
  have hrev : bs.length - 1 - (bs.length - 1 - i) = i := by omega
  rw [List.getD_eq_getElem?_getD, List.getElem?_reverse (by omega), hrev, ← List.getD_eq_getElem?_getD]

/-! ### split as the base-256 digits (R13) -/

theorem getElem?_splitLE (w n i : Nat) (h : i < n) :
    (splitLE w n)[i]? = some (BitVec.ofNat 8 (w / 256 ^ i)) := by
  induction n generalizing w i with
  | zero => omega
  | succ n ih =>
    cases i with
    | zero => simp [splitLE, ← BitVec.toNat_inj]
    | succ i => simp [splitLE, ih _ _ (Nat.lt_of_succ_lt_succ h), Nat.div_div_eq_div_mul, pow_succ']

theorem getElem?_splitBE (w n i : Nat) (h : i < n) :
    (splitBE w n)[i]? = some (BitVec.ofNat 8 (w / 256 ^ (n - 1 - i))) := by
  rw [splitBE, List.getElem?_reverse (by simpa using h), length_splitLE]
  exact getElem?_splitLE w n (n - 1 - i) (by omega)

theorem toNat_getD_splitLE (w n i : Nat) (h : i < n) :
    ((splitLE w n).getD i 0).toNat = w / 256 ^ i % 256 := by
  simp [List.getD_eq_getElem?_getD, getElem?_splitLE w n i h]

theorem toNat_getD_splitBE (w n i : Nat) (h : i < n) :
    ((splitBE w n).getD i 0).toNat = w / 256 ^ (n - 1 - i) % 256 := by
  simp [List.getD_eq_getElem?_getD, getElem?_splitBE w n i h]

/-! ### assemble after split (R13) -/

/-- Whatever `w` is, its n low bytes are `w` modulo 256^n. -/
theorem assembleLE_splitLE_mod (w n : Nat) : assembleLE (splitLE w n) = w % 256 ^ n := by
  induction n generalizing w with
  | zero => simp [splitLE, assembleLE, Nat.mod_one]
  | succ n ih => simp [splitLE, assembleLE, ih, pow_succ', Nat.mod_mul]

theorem assembleBE_splitBE_mod (w n : Nat) : assembleBE (splitBE w n) = w % 256 ^ n := by
  rw [assembleBE, splitBE, List.reverse_reverse, assembleLE_splitLE_mod]

/-- n bytes are 8n bits. -/
theorem pow_256_eq (n : Nat) : 256 ^ n = 2 ^ (8 * n) := (pow_mul 2 8 n).symm

/-- `assemble_X(split_X(w, n)) = w`, X being either byte order. -/
theorem assemble_split (order : ByteOrder) (w n : Nat) (h : w < 2 ^ (8 * n)) :
    assemble order (split order w n) = w := by
  cases order with
  | le => rw [assemble, split, assembleLE_splitLE_mod, pow_256_eq, Nat.mod_eq_of_lt h]
  | be => rw [assemble, split, assembleBE_splitBE_mod, pow_256_eq, Nat.mod_eq_of_lt h]

/-- Settles O6: the sums, the digits and the inverse, each from its lemma above. -/
theorem byteOrderPrimitives : Obligations.ByteOrderPrimitives := by
  unfold Obligations.ByteOrderPrimitives
  refine ⟨fun bs => ⟨assembleLE_eq_sum bs, assembleBE_eq_sum bs⟩, fun w n h => ?_⟩
  exact ⟨length_splitLE w n, length_splitBE w n, toNat_getD_splitLE w n, toNat_getD_splitBE w n,
    assemble_split .le w n h, assemble_split .be w n h, rfl⟩

namespace Machine

/-! ### Reads after MemWrite (R12) -/

/-- MemWrite changes no byte outside its window. -/
theorem Memory.read_writeBytes_outside (m : Memory) (a : Nat) (bs : List Byte) (x : Nat)
    (h : x < a ∨ a + bs.length ≤ x) : (m.writeBytes a bs).read x = m.read x := by
  induction bs generalizing m a with
  | nil => rfl
  | cons b bs ih =>
    rw [List.length_cons] at h
    rw [writeBytes, ih _ _ (by omega), read_write_other _ _ _ _ (by omega)]

/-- Byte k of the list is what address `a + k` reads as after MemWrite: the writes that follow it go to higher
addresses. -/
theorem Memory.getElem?_eq_read_writeBytes (m : Memory) (a : Nat) (bs : List Byte) (k : Nat)
    (h : k < bs.length) : bs[k]? = some ((m.writeBytes a bs).read (a + k)) := by
  induction bs generalizing m a k with
  | nil => cases h
  | cons b bs ih =>
    cases k with
    | zero => simp [writeBytes, read_writeBytes_outside]
    | succ k =>
      rw [List.getElem?_cons_succ, ih (m.write a b) (a + 1) k (Nat.lt_of_succ_lt_succ h), writeBytes,
        add_right_comm, add_assoc]

/-- Settles O7: the window read, the window written, the bytes outside it and the canonical form. -/
theorem memoryPrimitives : Obligations.MemoryPrimitives := by
  unfold Obligations.MemoryPrimitives
  intro m a n bs
  exact ⟨m.length_readBytes a n, m.getElem?_readBytes a n, m.getElem?_eq_read_writeBytes a bs,
    m.read_writeBytes_outside a bs, m.wf_writeBytes a bs⟩

end Machine

end Sys2Proof
end

/-! SUPPORT. The machine's invariant is kept by every step (spec/10_state.md): the responses and the plans of
commands are well-formed, so a unit that carries one out is, and so is the state after each move. -/

namespace Sys2Proof

/-! ### Token lengths (30_encoding.md R102) -/

/-- A token is at most ten bytes long where LEN does not say, so RLEN holds its length (R145). -/
theorem Token.length_lt (tok : Token) (p : Params) (hp : p.wf) (len : Nat) (h : len < 2 ^ p.offsetBits) :
    tok.length len < 2 ^ p.offsetBits := by
  have h16 : 2 ^ 4 ≤ 2 ^ p.offsetBits := Nat.pow_le_pow_right (by decide) hp.1
  cases tok with
  | int sg w order => cases w <;> simp only [Token.length, IntWidth.bytes] <;> omega
  | float f order => cases f <;> simp only [Token.length, FloatFormat.bytes] <;> omega
  | span => exact h
  | spanCopy => exact h
  | ignore => exact h

/-- Where LEN does not say how long a token is, its length is the same whatever LEN holds. -/
theorem Token.length_of_not_usesLen (tok : Token) (len : Nat) (h : tok.usesLen = false) :
    tok.length len = tok.length 0 := by
  cases tok with
  | int sg w order => rfl
  | float f order => rfl
  | span | spanCopy | ignore => cases h

namespace Machine

/-! ### Responses (R43 to R48) -/

theorem Response.wf_noFields (p : Params) : noFields.Wf p := by simp [Response.Wf, noFields]

/-- The response of an encode whose window ends inside the address range. DELTA is negative after a flush. -/
theorem Response.wf_encodeResponse (p : Params) (base n o : Nat) (hn : base + n < 2 ^ p.offsetBits)
    (ho : o < 2 ^ p.offsetBits) : (encodeResponse base n o).Wf p := by
  have hn' : ((base + n : Nat) : Int) < 2 ^ p.offsetBits := by exact_mod_cast hn
  have ho' : (o : Int) < 2 ^ p.offsetBits := by exact_mod_cast ho
  have hdelta : -(2 : Int) ^ p.offsetBits ≤ (base + n : Nat) - (o : Nat) ∧
      ((base + n : Nat) - (o : Nat) : Int) < 2 ^ p.offsetBits := by omega
  refine ⟨⟨rfl, rfl, rfl, rfl⟩, nofun, ?_, ?_⟩
  · rintro _ ⟨⟩; exact hn
  · rintro _ ⟨⟩; exact hdelta

/-- The response of a `get` whose window ends inside the address range. RESULT of a view holds its base because
OFFSET_BITS is at most 64; RDATA of a copy is as long as RLEN. -/
theorem Response.wf_getResponse (p : Params) (hp : p.wf) (layout : Float80Layout) (tok : Token) (o n : Nat)
    (bs : List Byte) (hn : o + n < 2 ^ p.offsetBits) (hbs : tok.readsWindow = true → bs.length = n) :
    (getResponse layout tok o n bs).Wf p := by
  have hn' : (n : Int) < 2 ^ p.offsetBits := by exact_mod_cast (show n < 2 ^ p.offsetBits by omega)
  have hbounds : -(2 : Int) ^ p.offsetBits ≤ n ∧ (n : Int) < 2 ^ p.offsetBits := by omega
  have hrlen : n < 2 ^ p.offsetBits := by omega
  cases tok with
  | int sg w order => cases sg <;> simp [getResponse, intTag, Response.Wf, hn, hbounds]
  | float f order => simp [getResponse, Response.Wf, hn, hbounds]
  | span =>
    obtain ⟨-, h64, -⟩ := hp
    have hbase : (BitVec.ofNat 64 o).toNat = o := by
      refine (BitVec.toNat_ofNat o 64).trans (Nat.mod_eq_of_lt ?_)
      calc
        o < 2 ^ p.offsetBits := by omega
        _ ≤ 2 ^ 64 := Nat.pow_le_pow_right (by decide) h64
    exact ⟨⟨⟨_, n, rfl, rfl, by rw [hbase]; rfl⟩, rfl, rfl⟩, by simp [getResponse, hrlen],
      by simp [getResponse, hn], by simp [getResponse, hbounds]⟩
  | spanCopy => simp [getResponse, Response.Wf, hn, hbounds, hrlen, hbs rfl]
  | ignore => simp [getResponse, Response.Wf, hn, hbounds]

theorem Response.wf_length (p : Params) (n : Nat) (h : n < 2 ^ p.offsetBits) :
    ({ rtag := .length, rlen := some n } : Response).Wf p := by simp [Response.Wf, h]

/-! ### Plans (R131) -/

/-- STATUS codes 6 and 7 are reserved for the text codecs (60_exceptions.md R348). -/
def Status.Written (e : Status) : Prop := e ≠ .invalidEncodingByte ∧ e ≠ .malformedSequence

/-- What a command may decide: an error that is written, a response that is well-formed, a window inside the
address range, a flush context that is one. -/
def Plan.Wf (p : Params) : Plan → Prop
  | .fail e => e.Written
  | .now r => r.Wf p
  | .read tok o n =>
    tok.readsWindow = true ∧ (tok.usesLen = false → n = tok.length 0) ∧ o + n < 2 ^ p.offsetBits
  | .write base o bs => base + bs.length < 2 ^ p.offsetBits ∧ o < 2 ^ p.offsetBits
  | .flush k => k.Wf p

theorem encodeBytes_error_written (layout : Float80Layout) (tok : Token) (v : ValueWord) (e : Status)
    (h : encodeBytes layout tok v = .error e) : e.Written := by
  rcases encodeBytes_error layout tok v e h with rfl | rfl <;> exact ⟨nofun, nofun⟩

theorem flushPlan_wf (p : Params) (k : FlushContext) (hk : k.Wf p) : (flushPlan k).Wf p := by
  obtain ⟨-, -, ho, hb, -⟩ := hk
  rcases flushPlan_cases k with ⟨hfit, h⟩ | ⟨-, h⟩ <;> rw [h]
  · exact ⟨by omega, ho⟩
  · exact ⟨nofun, nofun⟩

/-! ### Units -/

/-- The view a unit has returned is what RESULT and RLEN hold beside RTAG = VIEW (43_span.md R330). -/
theorem CodecUnit.view?_eq_some (c : CodecUnit) (v : SpanView) (h : c.view? = some v) :
    ∃ base : Word64, base.toNat = v.base ∧ c.rtag = some .view ∧ c.result = some base ∧
      c.rlen = some v.len := by
  unfold CodecUnit.view? at h
  split at h
  · next htag =>
    split at h
    · next base len hbase hlen => cases h; exact ⟨base, rfl, htag, hbase, hlen⟩
    · cases h
    · cases h
  · cases h

/-- A unit between the issue of a command, or its leaving FLUSH_WAIT, and what the command then does: nothing is
pending, and its response fields are about to be written. -/
structure CodecUnit.Executing (p : Params) (c : CodecUnit) : Prop where
  offset_lt : c.offset < 2 ^ p.offsetBits
  len_lt : c.len < 2 ^ p.offsetBits
  bufSize_lt : c.bufSize < 2 ^ p.offsetBits
  status_written : c.status.Written
  idle : c.unitState = .idle
  flushReq : c.flushReq = false
  ctx : c.ctx = none
  flushOff : c.flushOff = none
  flight : c.flight = none

namespace CodecUnit.Wf

variable {p : Params} {c : CodecUnit}

/-- CTX and FLUSH_OFF have no value in IDLE, and FLUSH_REQ is 0 (R50, R51). -/
theorem flush_fields_of_idle (h : c.Wf p) (hi : c.unitState = .idle) :
    c.ctx = none ∧ c.flushOff = none ∧ c.flushReq = false := by
  have hctx : c.ctx = none := by simpa [hi] using h.ctx_iff
  exact ⟨hctx, by simp [h.flushOff_eq, hctx], by simpa [hi] using h.flushReq_iff⟩

/-- An idle unit with nothing in flight, or whose flight has just ended. -/
theorem executing_of_idle (h : c.Wf p) (hi : c.unitState = .idle) :
    ({ c with flight := none } : CodecUnit).Executing p :=
  have ⟨hctx, hoff, hreq⟩ := h.flush_fields_of_idle hi
  ⟨h.offset_lt, h.len_lt, h.bufSize_lt, h.status_ne, hi, hreq, hctx, hoff, rfl⟩

/-- The unit as its issue latches it (40_contract.md R130). -/
theorem executing_of_issuable (h : c.Wf p) (hi : c.notIssuable = none) :
    ({ c with flushAck := false } : CodecUnit).Executing p :=
  have ⟨hidle, hflight⟩ := c.notIssuable_none.mp hi
  have ⟨hctx, hoff, hreq⟩ := h.flush_fields_of_idle hidle
  ⟨h.offset_lt, h.len_lt, h.bufSize_lt, h.status_ne, hidle, hreq, hctx, hoff, hflight⟩

/-- The unit that leaves FLUSH_WAIT (40_contract.md R140): a unit that waits has nothing in flight. -/
theorem executing_leaveFlush (h : c.Wf p) (hw : c.unitState = .flushWait) : c.leaveFlush.Executing p :=
  have hflight : c.flight = none := by
    by_contra hf
    exact absurd (h.flight_idle (Option.isSome_iff_ne_none.mpr hf)) (by simp [hw])
  ⟨h.offset_lt, h.len_lt, h.bufSize_lt, h.status_ne, rfl, rfl, rfl, rfl, hflight⟩

/-- A host write of a register that fits changes nothing the invariant looks at but the register. -/
theorem write (h : c.Wf p) (w : RegWrite) (hw : w.fits p = true) : (c.write w).Wf p := by
  cases w with
  | cmd v => exact { h with }
  | offset v => exact { h with offset_lt := by simpa [RegWrite.fits, fitsRegister] using hw }
  | len v => exact { h with len_lt := by simpa [RegWrite.fits, fitsRegister] using hw }
  | value v => exact { h with }
  | bufSize v => exact { h with bufSize_lt := by simpa [RegWrite.fits, fitsRegister] using hw }
  | flushCb v => exact { h with }
  | flushAck v => exact { h with }

/-- NEXT of a view response is one past the view, so the view lies in the address range (43_span.md R330). -/
theorem view_lt (h : c.Wf p) {v : SpanView} (hv : c.view? = some v) : v.base + v.len < 2 ^ p.offsetBits := by
  obtain ⟨base, hbase, htag, hresult, hrlen⟩ := c.view?_eq_some v hv
  have hresp : c.response? = some
      { rtag := .view, result := some base, rlen := some v.len, rdata := c.rdata, next := c.next,
        delta := c.delta } := by
    simp [CodecUnit.response?, htag, hresult, hrlen]
  obtain ⟨⟨⟨_, _, ⟨⟩, ⟨⟩, hnext⟩, -, -⟩, -, hlt, -⟩ := h.response_wf _ hresp
  exact hbase ▸ hlt _ hnext

/-- A unit in flight whose flight moves on. -/
theorem withFlight (h : c.Wf p) {f : Flight} (hc : c.flight.isSome) (hf : f.Wf p) :
    ({ c with flight := some f } : CodecUnit).Wf p :=
  { h with
    flight_wf := by rintro _ ⟨⟩; exact hf
    flight_idle := fun _ => h.flight_idle hc
    flight_several := fun _ => h.flight_several hc
    rtag_iff := by simpa [hc] using h.rtag_iff }

end CodecUnit.Wf

namespace CodecUnit.Executing

variable {p : Params} {c : CodecUnit}

/-! ### What a unit's command decides (R131) -/

theorem getPlan_wf (h : c.Executing p) (hp : p.wf) (layout : Float80Layout) (tok : Token) :
    (getPlan layout tok c).Wf p := by
  have hb := h.bufSize_lt
  rcases getPlan_cases layout tok c with ⟨-, -, hpl⟩ | ⟨-, ⟨-, hpl⟩ | ⟨hfit, ⟨hr, hpl⟩ | ⟨hr, hpl⟩⟩⟩ <;> rw [hpl]
  · exact ⟨nofun, nofun⟩
  · exact ⟨nofun, nofun⟩
  · exact ⟨hr, tok.length_of_not_usesLen c.len, by omega⟩
  · exact Response.wf_getResponse p hp layout tok _ _ _ (by omega) (by simp [hr])

theorem putPlan_wf (h : c.Executing p) (layout : Float80Layout) (tok : Token) :
    (putPlan layout tok c).Wf p := by
  have hb := h.bufSize_lt
  rcases putPlan_cases layout tok c with ⟨e, he, hpl⟩ | ⟨bs, -, -, ⟨hfit, hpl⟩ | ⟨-, hpl⟩⟩ <;> rw [hpl]
  · exact encodeBytes_error_written layout tok _ e he
  · exact ⟨by omega, h.offset_lt⟩
  · exact ⟨nofun, nofun⟩

theorem putfPlan_wf (h : c.Executing p) (layout : Float80Layout) (tok : Token) :
    (putfPlan layout tok c).Wf p := by
  have hb := h.bufSize_lt
  rcases putfPlan_cases layout tok c with
    ⟨e, he, hpl⟩ | ⟨bs, hbs, -, ⟨hfit, hpl⟩ | ⟨hmiss, -, hpl⟩ | ⟨-, -, hpl⟩⟩ <;> rw [hpl]
  · exact encodeBytes_error_written layout tok _ e he
  · exact ⟨by omega, h.offset_lt⟩
  · obtain ⟨hlen, hn⟩ := encodeBytes_ok layout tok _ bs 0 hbs
    exact ⟨hlen, hn, h.offset_lt, hb, hmiss⟩
  · exact ⟨nofun, nofun⟩

theorem lengthPlan_wf (h : c.Executing p) (hp : p.wf) (tok : Token) : (lengthPlan tok c).Wf p := by
  rcases lengthPlan_cases tok c with ⟨-, -, hpl⟩ | ⟨-, hpl⟩ <;> rw [hpl]
  · exact Response.wf_length p _ (tok.length_lt p hp c.len h.len_lt)
  · exact ⟨nofun, nofun⟩

theorem commandPlan_wf (h : c.Executing p) (hp : p.wf) (layout : Float80Layout) :
    (commandPlan layout c).Wf p := by
  unfold commandPlan
  split
  · exact ⟨nofun, nofun⟩
  · next i _ =>
    unfold planOf
    split
    · exact h.getPlan_wf hp layout i.token
    · exact h.putPlan_wf layout i.token
    · exact h.putfPlan_wf layout i.token
    · exact h.lengthPlan_wf hp i.token

/-! ### How a unit's command ends (R132, R137, R140) -/

theorem wf_raise (h : c.Executing p) {e : Status} (he : e.Written) : (c.raise e).Wf p where
  offset_lt := h.offset_lt
  len_lt := h.len_lt
  bufSize_lt := h.bufSize_lt
  status_ne := he
  flushReq_iff := by simp
  ctx_iff := by simp [h.ctx]
  flushOff_eq := by simp [h.ctx, h.flushOff]
  ctx_wf := by simp [h.ctx]
  flight_wf := by simp [h.flight]
  flight_idle := by simp
  flight_several := by simp [h.flight]
  rtag_iff := by simp [h.flight]
  pending_absent := by simp
  response_wf := by rintro _ ⟨⟩; exact Response.wf_noFields p
  error_absent := by rintro - _ ⟨⟩; rfl

theorem wf_respond (h : c.Executing p) {r : Response} (hr : r.Wf p) : (c.respond r).Wf p where
  offset_lt := h.offset_lt
  len_lt := h.len_lt
  bufSize_lt := h.bufSize_lt
  status_ne := ⟨nofun, nofun⟩
  flushReq_iff := by simp
  ctx_iff := by simp [h.ctx]
  flushOff_eq := by simp [h.ctx, h.flushOff]
  ctx_wf := by simp [h.ctx]
  flight_wf := by simp [h.flight]
  flight_idle := by simp
  flight_several := by simp [h.flight]
  rtag_iff := by simp [h.flight]
  pending_absent := by simp
  response_wf := by rintro _ ⟨⟩; exact hr
  error_absent := by simp

theorem wf_requestFlush (h : c.Executing p) {k : FlushContext} (hk : k.Wf p) : (c.requestFlush k).Wf p where
  offset_lt := h.offset_lt
  len_lt := h.len_lt
  bufSize_lt := h.bufSize_lt
  status_ne := h.status_written
  flushReq_iff := by simp
  ctx_iff := by simp
  flushOff_eq := by simp
  ctx_wf := by rintro _ ⟨⟩; exact hk
  flight_wf := by simp [h.flight]
  flight_idle := by simp [h.flight]
  flight_several := by simp [h.flight]
  rtag_iff := by simp
  pending_absent := by simp
  response_wf := by simp [CodecUnit.response?]
  error_absent := by simp [CodecUnit.response?]

/-- The command is in flight, its response fields absent, which only several units do (20_memory.md R79). -/
theorem wf_inFlight (h : c.Executing p) (hn : 1 < p.nUnits) {f : Flight} (hf : f.Wf p) :
    ({ c.markAbsent with flight := some f } : CodecUnit).Wf p where
  offset_lt := h.offset_lt
  len_lt := h.len_lt
  bufSize_lt := h.bufSize_lt
  status_ne := h.status_written
  flushReq_iff := by simp [h.flushReq, h.idle]
  ctx_iff := by simp [h.ctx, h.idle]
  flushOff_eq := by simp [h.ctx, h.flushOff]
  ctx_wf := by simp [h.ctx]
  flight_wf := by rintro _ ⟨⟩; exact hf
  flight_idle := fun _ => h.idle
  flight_several := fun _ => hn
  rtag_iff := by simp
  pending_absent := by simp
  response_wf := by simp [CodecUnit.response?]
  error_absent := by simp [CodecUnit.response?]

end CodecUnit.Executing

theorem CodecUnit.wf_reset (p : Params) : CodecUnit.reset.Wf p where
  offset_lt := Nat.two_pow_pos _
  len_lt := Nat.two_pow_pos _
  bufSize_lt := Nat.two_pow_pos _
  status_ne := ⟨nofun, nofun⟩
  flushReq_iff := by simp [CodecUnit.reset]
  ctx_iff := by simp [CodecUnit.reset]
  flushOff_eq := rfl
  ctx_wf := nofun
  flight_wf := nofun
  flight_idle := nofun
  flight_several := nofun
  rtag_iff := by simp [CodecUnit.reset]
  pending_absent := nofun
  response_wf := by rintro _ ⟨⟩; exact Response.wf_noFields p
  error_absent := fun h => absurd rfl h

/-! ### Flights (20_memory.md R79) -/

/-- An access leaves its flight inside the same window. -/
theorem Flight.Wf.set_read {p : Params} {tok : Token} {o : Nat} {got : List (Option Byte)}
    (h : (Flight.read tok o got).Wf p) (k : Nat) (b : Byte) : (Flight.read tok o (got.set k (some b))).Wf p := by
  simpa [Flight.Wf] using h

theorem Flight.Wf.erase_write {p : Params} {base o : Nat} {bs : List Byte} {todo : List Nat}
    (h : (Flight.write base o bs todo).Wf p) (k : Nat) : (Flight.write base o bs (todo.erase k)).Wf p := by
  obtain ⟨hn, ho, hnodup, htodo⟩ := h
  exact ⟨hn, ho, hnodup.erase k, fun j hj => htodo j (List.mem_of_mem_erase hj)⟩

/-- The response of a flight whose accesses are made. -/
theorem Flight.Wf.response {p : Params} {f : Flight} {r : Response} (hp : p.wf) (layout : Float80Layout)
    (h : f.Wf p) (hr : f.response? layout = some r) : r.Wf p := by
  cases f with
  | respond r' => cases hr; exact h
  | read tok o got =>
    obtain ⟨-, -, hn⟩ := h
    obtain ⟨hall, ⟨⟩⟩ := Option.ite_none_right_eq_some.mp hr
    exact Response.wf_getResponse p hp layout tok o _ _ hn fun _ =>
      List.filterMap_length_eq_length.mpr (List.all_eq_true.mp hall)
  | write base o bs todo =>
    obtain ⟨hn, ho, -, -⟩ := h
    obtain ⟨-, ⟨⟩⟩ := Option.ite_none_right_eq_some.mp hr
    exact Response.wf_encodeResponse p base _ o hn ho

/-! ### States -/

namespace State.Inv

variable {s t : State} {u : Nat} {c d : CodecUnit} {pl : Plan}

theorem unit_wf (h : s.Inv) (hc : s.units[u]? = some c) : c.Wf s.params :=
  h.units_wf c (List.mem_of_getElem? hc)

theorem setUnit (h : s.Inv) (hd : d.Wf s.params) : (s.setUnit u d).Inv where
  params_wf := h.params_wf
  units_length := by simpa using h.units_length
  buf_wf := h.buf_wf
  units_wf := fun e he => (s.mem_setUnit u d e he).elim (fun heq => heq ▸ hd) (h.units_wf e)
  views_wf := h.views_wf

theorem setBuf {m : Memory} (h : s.Inv) (hm : m.wf) : (s.setBuf m).Inv := { h with buf_wf := hm }

theorem latch (h : s.Inv) (hc : s.units[u]? = some c) : (s.latch u c).Inv :=
  { h.setUnit (u := u) (h.unit_wf hc |>.write (.flushAck false) rfl) with }

/-- Whatever a plan does in one step. -/
theorem carryOut (h : s.Inv) (hc : c.Executing s.params) (hpl : pl.Wf s.params) : (s.carryOut u c pl).Inv := by
  cases pl with
  | fail e => exact h.setUnit (hc.wf_raise hpl)
  | now r => exact h.setUnit (hc.wf_respond hpl)
  | read tok o n =>
    obtain ⟨-, -, hn⟩ := hpl
    exact h.setUnit (hc.wf_respond
      (Response.wf_getResponse _ h.params_wf _ tok o n _ hn fun _ => Memory.length_readBytes _ o n))
  | write base o bs =>
    obtain ⟨hn, ho⟩ := hpl
    exact (h.setBuf (s.buf.wf_writeBytes base bs h.buf_wf)).setUnit
      (hc.wf_respond (Response.wf_encodeResponse _ base _ o hn ho))
  | flush k => exact h.setUnit (hc.wf_requestFlush hpl)

/-- Whatever a plan does when its accesses are to be moves of their own. -/
theorem takeOff (h : s.Inv) (hn : 1 < s.params.nUnits) (hc : c.Executing s.params) (hpl : pl.Wf s.params) :
    (s.takeOff u c pl).Inv := by
  cases pl with
  | fail e => exact h.setUnit (hc.wf_raise hpl)
  | now r => exact h.setUnit (hc.wf_inFlight hn hpl)
  | read tok o n =>
    exact h.setUnit (hc.wf_inFlight hn (f := .read tok o _) (by simpa [Flight.Wf, Plan.Wf] using hpl))
  | write base o bs =>
    obtain ⟨hend, ho⟩ := hpl
    exact h.setUnit (hc.wf_inFlight hn ⟨hend, ho, List.nodup_range, fun k hk => List.mem_range.mp hk⟩)
  | flush k => exact h.setUnit (hc.wf_requestFlush hpl)

/-- A unit with a flush context waits, and what it then writes was fixed before the flush (R140). -/
theorem executing_leaveFlush (h : s.Inv) (hc : s.units[u]? = some c) {k : FlushContext}
    (hk : c.ctx = some k) : c.leaveFlush.Executing s.params ∧ (flushPlan k).Wf s.params :=
  have hw := h.unit_wf hc
  ⟨hw.executing_leaveFlush (hw.ctx_iff.mp (by simp [hk])), flushPlan_wf _ k (hw.ctx_wf k hk)⟩

end State.Inv

/-! ### One lemma for each move -/

section
variable {s t : State}

theorem hostWriteReg_keeps_inv (u : Nat) (w : RegWrite) (h : s.Inv) (ht : hostWriteReg u w s = .next t) :
    t.Inv := by
  obtain ⟨c, hc, hfits, -, rfl⟩ := hostWriteReg_next u w s t ht
  exact h.setUnit ((h.unit_wf hc).write w hfits)

theorem hostReadReg_keeps_inv (u : Nat) (r : PortReg) (h : s.Inv) (ht : hostReadReg u r s = .next t) :
    t.Inv := by
  obtain ⟨-, -, -, -, rfl⟩ := hostReadReg_next u r s t ht
  exact { h with }

theorem hostBufRead_keeps_inv (a : Nat) (h : s.Inv) (ht : hostBufRead a s = .next t) : t.Inv := by
  obtain ⟨-, rfl⟩ := hostBufRead_next a s t ht
  exact { h with }

theorem hostBufWrite_keeps_inv (a : Nat) (b : Byte) (h : s.Inv) (ht : hostBufWrite a b s = .next t) :
    t.Inv := by
  obtain ⟨-, rfl⟩ := hostBufWrite_next a b s t ht
  exact h.setBuf (s.buf.wf_write a b h.buf_wf)

theorem hostTakeView_keeps_inv (u : Nat) (h : s.Inv) (ht : hostTakeView u s = .next t) : t.Inv := by
  obtain ⟨c, v, hc, hv, rfl⟩ := hostTakeView_next u s t ht
  refine { h with views_wf := fun w hw => ?_ }
  rcases List.mem_append.mp hw with hw | hw
  · exact h.views_wf w hw
  · obtain rfl := List.mem_singleton.mp hw
    exact (h.unit_wf hc).view_lt hv

theorem hostViewRead_keeps_inv (v i : Nat) (h : s.Inv) (ht : hostViewRead v i s = .next t) : t.Inv := by
  obtain ⟨-, -, -, rfl⟩ := hostViewRead_next v i s t ht
  exact { h with }

theorem hostViewWrite_keeps_inv (v i : Nat) (b : Byte) (h : s.Inv) (ht : hostViewWrite v i b s = .next t) :
    t.Inv := by
  obtain ⟨w, -, -, rfl⟩ := hostViewWrite_next v i b s t ht
  exact h.setBuf (s.buf.wf_write _ b h.buf_wf)

theorem resetUnit_keeps_inv (u : Nat) (h : s.Inv) (ht : resetUnit u s = .next t) : t.Inv := by
  obtain ⟨-, rfl⟩ := resetUnit_next u s t ht
  exact h.setUnit (CodecUnit.wf_reset _)

theorem issue_keeps_inv (u : Nat) (h : s.Inv) (ht : issue u s = .next t) : t.Inv := by
  obtain ⟨c, hc, hi, rfl⟩ := issue_next u s t ht
  have hexec := (h.unit_wf hc).executing_of_issuable hi
  exact (h.latch hc).carryOut hexec (hexec.commandPlan_wf h.params_wf _)

theorem beginSplit_keeps_inv (u : Nat) (h : s.Inv) (ht : beginSplit u s = .next t) : t.Inv := by
  rcases beginSplit_next u s t ht with ⟨-, ht⟩ | ⟨hn, c, hc, hi, rfl⟩
  · exact issue_keeps_inv u h ht
  · have hexec := (h.unit_wf hc).executing_of_issuable hi
    exact (h.latch hc).takeOff hn hexec (hexec.commandPlan_wf h.params_wf _)

theorem resume_keeps_inv (u : Nat) (h : s.Inv) (ht : resume u s = .next t) : t.Inv := by
  obtain ⟨c, hc, rfl | ⟨k, hk, -, rfl⟩⟩ := resume_next u s t ht
  · exact h
  · obtain ⟨hexec, hplan⟩ := h.executing_leaveFlush hc hk
    exact h.carryOut hexec hplan

theorem resumeSplit_keeps_inv (u : Nat) (h : s.Inv) (ht : resumeSplit u s = .next t) : t.Inv := by
  rcases resumeSplit_next u s t ht with ⟨-, ht⟩ | ⟨hn, c, hc, rfl | ⟨k, hk, -, rfl⟩⟩
  · exact resume_keeps_inv u h ht
  · exact h
  · obtain ⟨hexec, hplan⟩ := h.executing_leaveFlush hc hk
    exact h.takeOff hn hexec hplan

theorem accessByte_keeps_inv (u k : Nat) (h : s.Inv) (ht : accessByte u k s = .next t) : t.Inv := by
  obtain ⟨c, hc, rfl | ⟨tok, o, got, hf, -, rfl⟩ | ⟨base, o, bs, todo, b, hf, -, -, rfl⟩⟩ :=
    accessByte_next u k s t ht
  · exact h
  · have hw := h.unit_wf hc
    exact h.setUnit (hw.withFlight (by simp [hf]) ((hw.flight_wf _ hf).set_read k _))
  · have hw := h.unit_wf hc
    exact (h.setBuf (s.buf.wf_write _ b h.buf_wf)).setUnit
      (hw.withFlight (by simp [hf]) ((hw.flight_wf _ hf).erase_write k))

theorem finishSplit_keeps_inv (u : Nat) (h : s.Inv) (ht : finishSplit u s = .next t) : t.Inv := by
  obtain ⟨c, hc, rfl | ⟨f, r, hf, hr, rfl⟩⟩ := finishSplit_next u s t ht
  · exact h
  · have hw := h.unit_wf hc
    have hexec := hw.executing_of_idle (hw.flight_idle (by simp [hf]))
    exact h.setUnit (hexec.wf_respond ((hw.flight_wf f hf).response h.params_wf _ hr))

theorem runMove_keeps_inv (m : Move) (h : s.Inv) (ht : runMove m s = .next t) : t.Inv := by
  cases m with
  | writeReg u w => exact hostWriteReg_keeps_inv u w h ht
  | readReg u r => exact hostReadReg_keeps_inv u r h ht
  | issue u => exact issue_keeps_inv u h ht
  | begin u => exact beginSplit_keeps_inv u h ht
  | access u k => exact accessByte_keeps_inv u k h ht
  | finish u => exact finishSplit_keeps_inv u h ht
  | resume u => exact resume_keeps_inv u h ht
  | resumeSplit u => exact resumeSplit_keeps_inv u h ht
  | reset u => exact resetUnit_keeps_inv u h ht
  | bufRead a => exact hostBufRead_keeps_inv a h ht
  | bufWrite a b => exact hostBufWrite_keeps_inv a b h ht
  | takeView u => exact hostTakeView_keeps_inv u h ht
  | viewRead v i => exact hostViewRead_keeps_inv v i h ht
  | viewWrite v i b => exact hostViewWrite_keeps_inv v i b h ht

end

/-- Settles O49: a step is a stutter or one move, and the invariant does not look at the schedule. -/
theorem invStep : Obligations.InvStep := by
  unfold Obligations.InvStep
  intro s t h ht
  rcases step_next s t ht with ⟨-, rfl⟩ | ⟨m, rest, -, hm⟩
  · exact h
  · exact runMove_keeps_inv (s := { s with sched := rest }) m { h with } hm

end Machine

end Sys2Proof

/-! SUPPORT. STATUS and FLUSH_ACK: where a command ends, and what the acknowledgement is for
(spec/10_state.md R42, R52; 40_contract.md R140). -/

namespace Sys2Proof.Machine

/-! ### Where STATUS is written (R42) -/

/-- A unit whose command has ended: idle, FLUSH_REQ = 0, RTAG present. -/
def CodecUnit.Ended (d : CodecUnit) : Prop :=
  d.unitState = .idle ∧ d.flushReq = false ∧ d.rtag.isSome = true

theorem CodecUnit.ended_raise (c : CodecUnit) (e : Status) : (c.raise e).Ended := ⟨rfl, rfl, rfl⟩

theorem CodecUnit.ended_respond (c : CodecUnit) (r : Response) : (c.respond r).Ended := ⟨rfl, rfl, rfl⟩

/-- In one step a plan ends its command, but for a flush request, which keeps STATUS. -/
theorem State.carryOut_ends (s : State) (u : Nat) (c : CodecUnit) (pl : Plan) :
    ∃ d, (s.carryOut u c pl).units = s.units.set u d ∧ (d.Ended ∨ d.status = c.status) := by
  refine ⟨_, s.carryOut_units u c pl, ?_⟩
  cases pl with
  | fail e => exact .inl (c.ended_raise e)
  | now r => exact .inl (c.ended_respond r)
  | read tok o n => exact .inl (c.ended_respond _)
  | write base o bs => exact .inl (c.ended_respond _)
  | flush k => exact .inr rfl

/-- Split, it ends only with an error: a command in flight keeps STATUS until its response. -/
theorem State.takeOff_ends (s : State) (u : Nat) (c : CodecUnit) (pl : Plan) :
    ∃ d, (s.takeOff u c pl).units = s.units.set u d ∧ (d.Ended ∨ d.status = c.status) := by
  cases pl with
  | fail e => exact ⟨_, rfl, .inl (c.ended_raise e)⟩
  | now r => exact ⟨_, rfl, .inr rfl⟩
  | read tok o n => exact ⟨_, rfl, .inr rfl⟩
  | write base o bs => exact ⟨_, rfl, .inr rfl⟩
  | flush k => exact ⟨_, rfl, .inr rfl⟩

/-- From `s` to `t` only the unit `v` is replaced, and where its STATUS is another its command has ended. -/
def EndsOnlyUnit (v : Nat) (s t : State) : Prop :=
  ∃ c d, s.units[v]? = some c ∧ t.units = s.units.set v d ∧ (d.Ended ∨ d.status = c.status)

/-- From `s` to `t` no unit has changed its STATUS. -/
def SameStatus (s t : State) : Prop := t.units.map CodecUnit.status = s.units.map CodecUnit.status

section
variable {s t : State} {u v : Nat} {c d : CodecUnit}

theorem EndsOnlyUnit.refl (hc : s.units[v]? = some c) : EndsOnlyUnit v s s := by
  obtain ⟨hlt, rfl⟩ := List.getElem?_eq_some_iff.mp hc
  exact ⟨_, _, hc, by simp, .inr rfl⟩

/-- A unit with another STATUS afterwards is the one replaced. -/
theorem EndsOnlyUnit.of_status_ne (h : EndsOnlyUnit v s t) (hc : s.units[u]? = some c)
    (hd : t.units[u]? = some d) (hne : d.status ≠ c.status) : v = u ∧ d.Ended := by
  obtain ⟨c', d', hc', hunits, hend⟩ := h
  rw [hunits] at hd
  by_cases huv : v = u
  · subst huv
    have hlt := (List.getElem?_eq_some_iff.mp hc).1
    obtain rfl : d' = d := by simpa [hlt] using hd
    obtain rfl : c' = c := by simpa [hc'] using hc
    exact ⟨rfl, hend.resolve_right hne⟩
  · rw [List.getElem?_set_ne huv, hc] at hd
    exact absurd (congrArg CodecUnit.status (Option.some_inj.mp hd)).symm hne

theorem SameStatus.status_eq (h : SameStatus s t) (hc : s.units[u]? = some c) (hd : t.units[u]? = some d) :
    d.status = c.status := by
  have hu := congrArg (·[u]?) h
  simpa [hc, hd] using hu

theorem SameStatus.of_units_eq (h : t.units = s.units) : SameStatus s t := by rw [SameStatus, h]

theorem SameStatus.of_set (hc : s.units[v]? = some c) (hunits : t.units = s.units.set v d)
    (hd : d.status = c.status) : SameStatus s t := by
  obtain ⟨hlt, rfl⟩ := List.getElem?_eq_some_iff.mp hc
  have hself := List.set_getElem_self (as := s.units.map CodecUnit.status) (i := v) (by simpa using hlt)
  rw [SameStatus, hunits, List.map_set, hd]
  simpa using hself

theorem CodecUnit.write_status (c : CodecUnit) (w : RegWrite) : (c.write w).status = c.status := by
  cases w <;> rfl

theorem hostWriteReg_sameStatus (w : RegWrite) (ht : hostWriteReg v w s = .next t) : SameStatus s t := by
  obtain ⟨c, hc, -, -, rfl⟩ := hostWriteReg_next v w s t ht
  exact .of_set hc rfl (c.write_status w)

theorem accessByte_sameStatus (k : Nat) (ht : accessByte v k s = .next t) : SameStatus s t := by
  obtain ⟨c, hc, rfl | ⟨tok, o, got, -, -, rfl⟩ | ⟨base, o, bs, todo, b, -, -, -, rfl⟩⟩ :=
    accessByte_next v k s t ht
  · exact .of_units_eq rfl
  · exact .of_set hc rfl rfl
  · exact .of_set hc rfl rfl

theorem issue_endsOnlyUnit (ht : issue v s = .next t) : EndsOnlyUnit v s t := by
  obtain ⟨c, hc, -, rfl⟩ := issue_next v s t ht
  obtain ⟨d, hd, hend⟩ := (s.latch v c).carryOut_ends v { c with flushAck := false }
    (commandPlan s.params.layout { c with flushAck := false })
  exact ⟨c, d, hc, by simpa using hd, hend⟩

theorem beginSplit_endsOnlyUnit (ht : beginSplit v s = .next t) : EndsOnlyUnit v s t := by
  rcases beginSplit_next v s t ht with ⟨-, ht⟩ | ⟨-, c, hc, -, rfl⟩
  · exact issue_endsOnlyUnit ht
  · obtain ⟨d, hd, hend⟩ := (s.latch v c).takeOff_ends v { c with flushAck := false }
      (commandPlan s.params.layout { c with flushAck := false })
    exact ⟨c, d, hc, by simpa using hd, hend⟩

theorem resume_endsOnlyUnit (ht : resume v s = .next t) : EndsOnlyUnit v s t := by
  obtain ⟨c, hc, rfl | ⟨k, -, -, rfl⟩⟩ := resume_next v s t ht
  · exact .refl hc
  · obtain ⟨d, hd, hend⟩ := s.carryOut_ends v c.leaveFlush (flushPlan k)
    exact ⟨c, d, hc, hd, hend⟩

theorem resumeSplit_endsOnlyUnit (ht : resumeSplit v s = .next t) : EndsOnlyUnit v s t := by
  rcases resumeSplit_next v s t ht with ⟨-, ht⟩ | ⟨-, c, hc, rfl | ⟨k, -, -, rfl⟩⟩
  · exact resume_endsOnlyUnit ht
  · exact .refl hc
  · obtain ⟨d, hd, hend⟩ := s.takeOff_ends v c.leaveFlush (flushPlan k)
    exact ⟨c, d, hc, hd, hend⟩

theorem finishSplit_endsOnlyUnit (ht : finishSplit v s = .next t) : EndsOnlyUnit v s t := by
  obtain ⟨c, hc, rfl | ⟨f, r, -, -, rfl⟩⟩ := finishSplit_next v s t ht
  · exact .refl hc
  · exact ⟨c, _, hc, rfl, .inl (CodecUnit.ended_respond _ r)⟩

theorem resetUnit_endsOnlyUnit (ht : resetUnit v s = .next t) : EndsOnlyUnit v s t := by
  obtain ⟨⟨c, hc⟩, rfl⟩ := resetUnit_next v s t ht
  exact ⟨c, _, hc, rfl, .inl ⟨rfl, rfl, rfl⟩⟩

end

/-- The moves that can end a command of unit `v`, its reset aside. -/
def Move.EndsCommand (v : Nat) (m : Move) : Prop :=
  m = .issue v ∨ m = .begin v ∨ m = .finish v ∨ m = .resume v ∨ m = .resumeSplit v

/-- What each move can do to STATUS. -/
theorem runMove_status (m : Move) (s t : State) (ht : runMove m s = .next t) :
    SameStatus s t ∨ ∃ v, (m = .reset v ∨ m.EndsCommand v) ∧ EndsOnlyUnit v s t := by
  cases m with
  | writeReg v w => exact .inl (hostWriteReg_sameStatus w ht)
  | readReg v r =>
    obtain ⟨-, -, -, -, rfl⟩ := hostReadReg_next v r s t ht
    exact .inl (.of_units_eq rfl)
  | issue v => exact .inr ⟨v, .inr (.inl rfl), issue_endsOnlyUnit ht⟩
  | begin v => exact .inr ⟨v, .inr (.inr (.inl rfl)), beginSplit_endsOnlyUnit ht⟩
  | access v k => exact .inl (accessByte_sameStatus k ht)
  | finish v => exact .inr ⟨v, .inr (.inr (.inr (.inl rfl))), finishSplit_endsOnlyUnit ht⟩
  | resume v => exact .inr ⟨v, .inr (.inr (.inr (.inr (.inl rfl)))), resume_endsOnlyUnit ht⟩
  | resumeSplit v => exact .inr ⟨v, .inr (.inr (.inr (.inr (.inr rfl)))), resumeSplit_endsOnlyUnit ht⟩
  | reset v => exact .inr ⟨v, .inl rfl, resetUnit_endsOnlyUnit ht⟩
  | bufRead a =>
    obtain ⟨-, rfl⟩ := hostBufRead_next a s t ht
    exact .inl (.of_units_eq rfl)
  | bufWrite a b =>
    obtain ⟨-, rfl⟩ := hostBufWrite_next a b s t ht
    exact .inl (.of_units_eq rfl)
  | takeView v =>
    obtain ⟨-, -, -, -, rfl⟩ := hostTakeView_next v s t ht
    exact .inl (.of_units_eq rfl)
  | viewRead v i =>
    obtain ⟨-, -, -, rfl⟩ := hostViewRead_next v i s t ht
    exact .inl (.of_units_eq rfl)
  | viewWrite v i b =>
    obtain ⟨-, -, -, rfl⟩ := hostViewWrite_next v i b s t ht
    exact .inl (.of_units_eq rfl)

/-- Settles O51: a changed STATUS is that of the one unit whose command the move has ended. -/
theorem statusWrittenAtEnd : Obligations.StatusWrittenAtEnd := by
  unfold Obligations.StatusWrittenAtEnd
  intro m s t u c d ht hc hd hne
  rcases runMove_status m s t ht with hsame | ⟨v, hm, hends⟩
  · exact absurd (hsame.status_eq hc hd) hne
  · obtain ⟨rfl, hended⟩ := hends.of_status_ne hc hd hne
    exact hm.imp_right fun hm => ⟨hm, hended⟩

/-! ### What FLUSH_ACK is for (R52) -/

/-- What a command leaves in FLUSH_ACK: where it was 0 it stays 0. -/
theorem Plan.unitAfter_flushAck (s : State) (c : CodecUnit) (pl : Plan) (h : c.flushAck = false) :
    (pl.unitAfter s c).flushAck = false := by
  cases pl with
  | fail e => rfl
  | now r => exact h
  | read tok o n => exact h
  | write base o bs => exact h
  | flush k => exact h

/-- Latching a command forgets FLUSH_ACK, so its earlier value is lost. -/
theorem State.latch_setUnit_flushAck (s : State) (u : Nat) (c : CodecUnit) (b : Bool) :
    (s.setUnit u { c with flushAck := b }).latch u { c with flushAck := b } = s.latch u c := by
  simp [State.latch, State.setUnit]

/-- Step 2 of a flush leaves FLUSH_WAIT, whether the bytes fit now or not. -/
theorem flushPlan_unitAfter_idle (s : State) (c : CodecUnit) (k : FlushContext) :
    ((flushPlan k).unitAfter s c).unitState = .idle := by
  rcases flushPlan_cases k with ⟨-, h⟩ | ⟨-, h⟩ <;> rw [h] <;> rfl

/-- In IDLE step 2 of a flush is not enabled (40_contract.md R143; log 7). -/
theorem resume_of_idle (s : State) (u : Nat) (c : CodecUnit) (hc : s.units[u]? = some c)
    (hi : c.unitState = .idle) : resume u s = .next s := by
  rw [resume, s.onUnit_of_unit u _ c hc]
  cases c.ctx with
  | none => rfl
  | some k => simp [CodecUnit.resumable, hi]

/-- In FLUSH_WAIT, acknowledged, it carries out what the flush context says (40_contract.md R140). -/
theorem resume_of_acknowledged (s : State) (u : Nat) (c : CodecUnit) (k : FlushContext)
    (hc : s.units[u]? = some c) (hw : c.unitState = .flushWait) (hk : c.ctx = some k)
    (ha : c.flushAck = true) : resume u s = .next (s.carryOut u c.leaveFlush (flushPlan k)) := by
  rw [resume, s.onUnit_of_unit u _ c hc]
  simp [CodecUnit.resumable, hk, hw, ha]

/-- Settles O53: the latched unit, the step that is not enabled, and the unit that leaves FLUSH_WAIT. -/
theorem flushAckRules : Obligations.FlushAckRules := by
  unfold Obligations.FlushAckRules
  intro s u c hc
  refine ⟨fun hi hf b => ?_, resume_of_idle s u c hc, fun k hw hk ha => ?_⟩
  · have hissue : c.notIssuable = none := c.notIssuable_none.mpr ⟨hi, hf⟩
    refine ⟨_, _, issue_of_unit u s c hc hissue, ?_,
      State.carryOut_unit _ u _ _ _ (State.setUnit_same s u _ c hc), Plan.unitAfter_flushAck _ _ _ rfl⟩
    rw [issue_of_unit u _ { c with flushAck := b } (s.setUnit_same u _ c hc) hissue,
      s.latch_setUnit_flushAck u c b]
    rfl
  · exact ⟨_, _, resume_of_acknowledged s u c k hc hw hk ha, s.carryOut_unit u _ c _ hc,
      flushPlan_unitAfter_idle s _ k, Plan.unitAfter_flushAck s _ _ rfl⟩

end Sys2Proof.Machine

/-! SUPPORT. The host's accesses to the registers and to BUF (spec/10_state.md R33, R56; 20_memory.md R81, R89):
each outcome of a write and of a read, said once. -/

namespace Sys2Proof.Machine

section
variable {s : State} {u : Nat} {c : CodecUnit}

/-! ### Register writes (R33) -/

/-- A value fits a register of OFFSET_BITS bits, or is too wide for it (00_scope.md R11). -/
theorem fitsRegister_eq_true (p : Params) (v : Nat) : fitsRegister p v = true ↔ v < 2 ^ p.offsetBits := by
  simp [fitsRegister]

theorem fitsRegister_eq_false (p : Params) (v : Nat) : fitsRegister p v = false ↔ 2 ^ p.offsetBits ≤ v := by
  simp [fitsRegister]

theorem hostWriteReg_of_allowed (hc : s.units[u]? = some c) (w : RegWrite) (hfits : w.fits s.params = true)
    (hstate : c.unitState = .idle ∨ w.anyState = true) :
    hostWriteReg u w s = .next (s.setUnit u (c.write w)) := by
  rcases hstate with hidle | hany
  · simp [hostWriteReg, hc, hfits, hidle]
  · simp [hostWriteReg, hc, hfits, hany]

theorem hostWriteReg_of_tooWide (hc : s.units[u]? = some c) (w : RegWrite) (hfits : w.fits s.params = false) :
    hostWriteReg u w s = .refused .valueTooWide := by
  simp [hostWriteReg, hc, hfits]

/-- FLUSH_ACK is the one register the host may write in any state. -/
theorem RegWrite.anyState_eq_true (w : RegWrite) (h : w.anyState = true) : ∃ b, w = .flushAck b := by
  cases w with
  | flushAck b => exact ⟨b, rfl⟩
  | cmd | offset | len | value | bufSize | flushCb => cases h

/-! ### Register reads (R56) -/

theorem hostReads_of_read (hc : s.units[u]? = some c) (r : PortReg) (d : HostDatum) (hd : c.read r = some d) :
    HostReads u r d s := by
  simp [HostReads, hostReadReg, hc, hd]

theorem hostReadReg_of_absent (hc : s.units[u]? = some c) (r : PortReg) (hr : c.read r = none) :
    hostReadReg u r s = .fault .absentRead := by
  simp [hostReadReg, hc, hr]

/-- A one-bit register reads as 0 or 1. -/
theorem hostReads_of_flag (hc : s.units[u]? = some c) (r : PortReg) (b : Bool)
    (hr : c.read r = some (.unsigned b.toNat)) : HostReads u r (.unsigned (if b then 1 else 0)) s := by
  have hbit : b.toNat = if b then 1 else 0 := by cases b <;> rfl
  exact hostReads_of_read hc r _ (hbit ▸ hr)

/-- A register that can be without a value reads as the value, or the read is a fault. -/
theorem hostReads_of_optional {α : Type} (hc : s.units[u]? = some c) (r : PortReg) (x : Option α)
    (f : α → HostDatum) (hr : c.read r = x.map f) :
    (∀ v, x = some v → HostReads u r (f v) s) ∧ (x = none → hostReadReg u r s = .fault .absentRead) :=
  ⟨fun v hx => hostReads_of_read hc r _ (by simp [hr, hx]),
    fun hx => hostReadReg_of_absent hc r (by simp [hr, hx])⟩

/-- An error leaves no value field to read (40_contract.md R137; R56). -/
theorem CodecUnit.read_raise (c : CodecUnit) (e : Status) (r : PortReg)
    (h : r = .result ∨ r = .rlen ∨ r = .rdata ∨ r = .next ∨ r = .delta) : (c.raise e).read r = none := by
  rcases h with rfl | rfl | rfl | rfl | rfl <;> rfl

/-! ### BUF (20_memory.md R81, R89) -/

theorem State.inBuf_of_lt (hc : s.units[u]? = some c) (a : Nat) (h : a < c.bufSize) : s.inBuf a = true :=
  List.any_eq_true.mpr ⟨c, List.mem_of_getElem? hc, by simpa using h⟩

theorem State.inBuf_eq_false (s : State) (a : Nat) (h : ∀ d ∈ s.units, d.bufSize ≤ a) : s.inBuf a = false := by
  simpa [State.inBuf] using h

theorem hostBufRead_of_inBuf (s : State) (a : Nat) (h : s.inBuf a = true) :
    hostBufRead a s = .next { s with seen := some (.unsigned (s.buf.read a).toNat) } := by
  simp [hostBufRead, h]

theorem hostBufWrite_of_inBuf (s : State) (a : Nat) (b : Byte) (h : s.inBuf a = true) :
    hostBufWrite a b s = .next (s.setBuf (s.buf.write a b)) := by
  simp [hostBufWrite, h]

/-- A one-byte write changes no other byte. -/
theorem sameBufOutside_write (s : State) (a : Nat) (b : Byte) :
    SameBufOutside a 1 s (s.setBuf (s.buf.write a b)) :=
  fun x hx => s.buf.read_write_other a b x (by omega)

end

/-- Settles O54: the writes that are allowed, the two refusals, and the accesses to BUF inside and outside. -/
theorem hostAccess : Obligations.HostAccess := by
  unfold Obligations.HostAccess
  intro s u c hc
  have hwrite (w : RegWrite) := hostWriteReg_of_allowed hc w
  have hwide (w : RegWrite) := hostWriteReg_of_tooWide hc w
  refine ⟨fun b => hwrite (.flushAck b) rfl (.inr rfl), fun hi => ?idle, fun hw w t ht => ?waiting,
    fun v hv => ?wide, fun a b ha => ?inside, fun a b ha => ?outside⟩
  case idle =>
    refine ⟨fun v => hwrite (.cmd v) rfl (.inl hi), fun v => hwrite (.value v) rfl (.inl hi),
      fun b => hwrite (.flushCb b) rfl (.inl hi), fun v hv => ?_⟩
    have hfits := (fitsRegister_eq_true s.params v).mpr hv
    exact ⟨hwrite (.offset v) hfits (.inl hi), hwrite (.len v) hfits (.inl hi),
      hwrite (.bufSize v) hfits (.inl hi)⟩
  case waiting =>
    obtain ⟨c', hc', -, hany, -⟩ := hostWriteReg_next u w s t ht
    obtain rfl : c = c' := Option.some_inj.mp (hc.symm.trans hc')
    exact w.anyState_eq_true (hany hw)
  case wide =>
    have hfits := (fitsRegister_eq_false s.params v).mpr hv
    exact ⟨hwide (.offset v) hfits, hwide (.len v) hfits, hwide (.bufSize v) hfits⟩
  case inside =>
    have hin := State.inBuf_of_lt hc a ha
    exact ⟨⟨_, hostBufRead_of_inBuf s a hin, rfl, fun _ => rfl, rfl⟩,
      ⟨_, hostBufWrite_of_inBuf s a b hin, s.buf.read_write_same a b, sameBufOutside_write s a b, rfl⟩⟩
  case outside =>
    have hout := s.inBuf_eq_false a ha
    exact ⟨by simp [hostBufRead, hout], by simp [hostBufWrite, hout]⟩

/-- Settles O55: every value is what `CodecUnit.read` gives, and where it gives none the read is a fault. -/
theorem absentReads : Obligations.AbsentReads := by
  unfold Obligations.AbsentReads
  intro s u c hc
  have hread (r : PortReg) (d : HostDatum) := hostReads_of_read hc r d
  have hflag (r : PortReg) (b : Bool) := hostReads_of_flag hc r b
  have hstatus (e : Status) (h : c.status = e) : HostReads u .status (.unsigned e.code.toNat) s :=
    hread _ _ (h ▸ rfl)
  have hunit (x : UnitState) (h : c.unitState = x) : HostReads u .unitState (.unsigned x.code.toNat) s :=
    hread _ _ (h ▸ rfl)
  obtain ⟨htag, hnoTag⟩ := hostReads_of_optional hc .rtag c.rtag _ rfl
  obtain ⟨hresult, hnoResult⟩ := hostReads_of_optional hc .result c.result _ rfl
  obtain ⟨hrlen, hnoRlen⟩ := hostReads_of_optional hc .rlen c.rlen _ rfl
  obtain ⟨hrdata, hnoRdata⟩ := hostReads_of_optional hc .rdata c.rdata _ rfl
  obtain ⟨hnext, hnoNext⟩ := hostReads_of_optional hc .next c.next _ rfl
  obtain ⟨hdelta, hnoDelta⟩ := hostReads_of_optional hc .delta c.delta _ rfl
  obtain ⟨hoff, hnoOff⟩ := hostReads_of_optional hc .flushOff c.flushOff _ rfl
  exact ⟨hread _ _ rfl, hread _ _ rfl, hread _ _ rfl, hread _ _ rfl, hread _ _ rfl,
    hflag .flushCb _ rfl, hflag .flushReq _ rfl, hflag .flushAck _ rfl, hunit .idle, hunit .flushWait,
    ⟨hstatus .ok, hstatus .illegalCommand, hstatus .outOfRange, hstatus .outOfBounds,
      hstatus .noFlushCallback, hstatus .flushNoRoom, hstatus .invalidEncodingByte,
      hstatus .malformedSequence⟩,
    ⟨htag .noValue, htag .uint, htag .sint, htag .float, htag .view, htag .bytes, htag .length⟩,
    hresult, hrlen, hrdata, hnext, hdelta, hoff,
    hnoTag, hnoResult, hnoRlen, hnoRdata, hnoNext, hnoDelta, hnoOff,
    fun r hr e => hostReadReg_of_absent (s.setUnit_same u _ c hc) r (c.read_raise e r hr)⟩

end Sys2Proof.Machine

/-! SUPPORT. What one command does to BUF (spec/20_memory.md R77, R78): a `get` leaves every byte and can be
repeated, a `put` or `putf` changes its window alone. -/

namespace Sys2Proof.Machine

/-! ### A `get` (R77) -/

/-- A `get` reads OFFSET, LEN and BUF_SIZE and no other register, so its plan is that of any unit with the same
request registers. -/
theorem getPlan_of_sameRequest (layout : Float80Layout) (tok : Token) (c d : CodecUnit)
    (h : d.SameRequest c) : getPlan layout tok d = getPlan layout tok c := by
  obtain ⟨-, hoffset, hlen, -, hbufSize, -⟩ := h
  simp only [getPlan, hoffset, hlen, hbufSize]

/-- No plan writes a request register (10_state.md R33). -/
theorem Plan.unitAfter_sameRequest (s : State) (c : CodecUnit) (pl : Plan) : (pl.unitAfter s c).SameRequest c := by
  cases pl <;> exact ⟨rfl, rfl, rfl, rfl, rfl, rfl⟩

/-- A plan that neither writes BUF nor waits for a flush: the plans of a `get`. -/
def Plan.ReadsOnly : Plan → Prop
  | .fail _ | .now _ | .read _ _ _ => True
  | .write _ _ _ | .flush _ => False

theorem getPlan_readsOnly (layout : Float80Layout) (tok : Token) (c : CodecUnit) :
    (getPlan layout tok c).ReadsOnly := by
  obtain ⟨-, -, h⟩ | ⟨-, ⟨-, h⟩ | ⟨-, ⟨-, h⟩ | ⟨-, h⟩⟩⟩ := getPlan_cases layout tok c <;> rw [h] <;> trivial

theorem Plan.ReadsOnly.bufAfter {pl : Plan} (h : pl.ReadsOnly) (m : Memory) : pl.bufAfter m = m := by
  cases pl with
  | fail | now | read => rfl
  | write | flush => cases h

/-- What such a plan answers depends on the layout and on BUF alone, not on the unit's earlier response. -/
theorem Plan.ReadsOnly.answer_congr {pl : Plan} (h : pl.ReadsOnly) {s t : State} (c d : CodecUnit)
    (hparams : t.params = s.params) (hbuf : t.buf = s.buf) :
    (pl.unitAfter t d).status = (pl.unitAfter s c).status ∧
    (pl.unitAfter t d).response? = (pl.unitAfter s c).response? := by
  cases pl with
  | fail e => exact ⟨rfl, rfl⟩
  | now r => exact ⟨rfl, rfl⟩
  | read tok o n => rw [unitAfter, unitAfter, hparams, hbuf]; exact ⟨rfl, rfl⟩
  | write | flush => cases h

/-- What the execution of an instruction leaves: the active unit and BUF as its plan says. -/
theorem exec_of_unit (i : Instr) (s : State) (c : CodecUnit) (hc : s.units[s.active]? = some c) :
    exec i s = .next (s.carryOut s.active c (planOf s.params.layout i c)) := by
  rw [exec_eq_perform, State.perform_of_unit s _ c hc]

theorem planOf_get (layout : Float80Layout) (i : Instr) (c : CodecUnit) (hi : i.op = .get) :
    planOf layout i c = getPlan layout i.token c := by rw [planOf, hi]

/-- Settles O44: the second `get` has the plan of the first, and finds the layout and BUF as they were. -/
theorem getsLeaveBuf : Obligations.GetsLeaveBuf := by
  unfold Obligations.GetsLeaveBuf
  intro i s c hi hc
  obtain ⟨pl, hpl⟩ : ∃ pl, getPlan s.params.layout i.token c = pl := ⟨_, rfl⟩
  have hreads : pl.ReadsOnly := hpl ▸ getPlan_readsOnly s.params.layout i.token c
  have hfirst : exec i s = .next (s.carryOut s.active c pl) := by
    rw [exec_of_unit i s c hc, planOf_get _ i c hi, hpl]
  let t := s.carryOut s.active c pl
  have hparams : t.params = s.params := State.carryOut_params ..
  have hactive : t.active = s.active := State.carryOut_active ..
  have hbuf : t.buf = s.buf := (State.carryOut_buf ..).trans (hreads.bufAfter s.buf)
  have hunit : t.units[s.active]? = some (pl.unitAfter s c) := s.carryOut_unit _ c c pl hc
  have hsecond : exec i t = .next (t.carryOut s.active (pl.unitAfter s c) pl) := by
    rw [exec_of_unit i t _ (hactive.symm ▸ hunit), planOf_get _ i _ hi, hparams,
      getPlan_of_sameRequest _ _ c _ (pl.unitAfter_sameRequest s c), hpl, hactive]
  have hbuf' : (t.carryOut s.active (pl.unitAfter s c) pl).buf = s.buf := by
    rw [State.carryOut_buf, hreads.bufAfter, hbuf]
  exact ⟨t, _, _, _, hfirst, hsecond, hunit, t.carryOut_unit _ _ _ pl hunit, fun a => by rw [hbuf],
    fun a => by rw [hbuf'], hreads.answer_congr c _ hparams hbuf⟩

/-! ### A `put` or `putf` (R78) -/

theorem encodeBytes_error_ne_ok {layout : Float80Layout} {tok : Token} {v : ValueWord} {e : Status}
    (h : encodeBytes layout tok v = .error e) : e ≠ .ok := by
  rcases encodeBytes_error layout tok v e h with rfl | rfl <;> nofun

/-- What an encode decides: an error, its window with its bytes, or a flush. -/
theorem planOf_encode_cases (layout : Float80Layout) (i : Instr) (c : CodecUnit)
    (hi : i.op = .put ∨ i.op = .putf) :
    (∃ e, e ≠ .ok ∧ planOf layout i c = .fail e) ∨
    (∃ bs, encodeBytes layout i.token c.value = .ok bs ∧ bs.length = i.token.length c.len ∧
      planOf layout i c = .write c.offset c.offset bs) ∨
    ∃ k, planOf layout i c = .flush k := by
  rcases hi with hi | hi <;> simp only [planOf, hi]
  · obtain ⟨e, he, h⟩ | ⟨bs, hbs, hlen, ⟨-, h⟩ | ⟨-, h⟩⟩ := putPlan_cases layout i.token c
    · exact .inl ⟨e, encodeBytes_error_ne_ok he, h⟩
    · exact .inr (.inl ⟨bs, hbs, hlen, h⟩)
    · exact .inl ⟨.outOfBounds, nofun, h⟩
  · obtain ⟨e, he, h⟩ | ⟨bs, hbs, hlen, ⟨-, h⟩ | ⟨-, -, h⟩ | ⟨-, -, h⟩⟩ := putfPlan_cases layout i.token c
    · exact .inl ⟨e, encodeBytes_error_ne_ok he, h⟩
    · exact .inr (.inl ⟨bs, hbs, hlen, h⟩)
    · exact .inr (.inr ⟨_, h⟩)
    · exact .inl ⟨.noFlushCallback, nofun, h⟩

/-- A write plan leaves its bytes in its window and every other byte alone. -/
theorem State.carryOut_write_window (s : State) (u : Nat) (c : CodecUnit) (base o : Nat) (bs : List Byte) :
    (∀ k, k < bs.length → bs[k]? = some ((s.carryOut u c (.write base o bs)).buf.read (base + k))) ∧
    SameBufOutside base bs.length s (s.carryOut u c (.write base o bs)) :=
  ⟨s.buf.getElem?_eq_read_writeBytes base bs, s.buf.read_writeBytes_outside base bs⟩

/-- Settles O45: each plan of an encode, and each plan of step 2 of a flush. -/
theorem encodesWriteOnlyWindow : Obligations.EncodesWriteOnlyWindow := by
  unfold Obligations.EncodesWriteOnlyWindow
  refine ⟨fun i s c hi hc => ?_, fun s u c k hc hk hw ha => ?_⟩
  · refine ⟨_, _, exec_of_unit i s c hc, s.carryOut_unit _ c c _ hc, ?_⟩
    obtain ⟨e, he, h⟩ | ⟨bs, hbs, hlen, h⟩ | ⟨k, h⟩ := planOf_encode_cases s.params.layout i c hi <;> rw [h]
    · exact ⟨fun _ _ => rfl, fun _ hok => absurd hok he⟩
    · refine ⟨fun hfail => ?_, fun _ _ => ⟨bs, hbs, hlen, s.carryOut_write_window _ c c.offset c.offset bs⟩⟩
      rcases hfail with hwait | hne
      · cases hwait
      · exact absurd rfl hne
    · exact ⟨fun _ _ => rfl, nofun⟩
  · refine ⟨_, _, resume_of_acknowledged s u c k hc hw hk ha, s.carryOut_unit u _ c _ hc, ?_⟩
    obtain ⟨-, h⟩ | ⟨-, h⟩ := flushPlan_cases k <;> rw [h]
    · obtain ⟨hwindow, houtside⟩ := s.carryOut_write_window u c.leaveFlush 0 k.offset k.bytes
      exact ⟨fun hne => absurd rfl hne, fun _ => ⟨by simpa using hwindow, houtside⟩⟩
    · exact ⟨fun _ _ => rfl, nofun⟩

end Sys2Proof.Machine

/-! SUPPORT. The byte accesses of commands in flight (spec/20_memory.md R79): what one access does, what a run of
accesses of one unit comes to, and that the split command is the one-step command. -/

namespace Sys2Proof.Machine

/-! ### Replacing units and reading cells -/

/-- Replacing a unit by itself changes nothing. -/
theorem State.setUnit_self (s : State) (u : Nat) (c : CodecUnit) (h : s.units[u]? = some c) :
    s.setUnit u c = s := by
  obtain ⟨hlt, rfl⟩ := List.getElem?_eq_some_iff.mp h
  simp [State.setUnit]

@[simp] theorem State.setUnit_setUnit (s : State) (u : Nat) (c d : CodecUnit) :
    (s.setUnit u c).setUnit u d = s.setUnit u d := by simp [State.setUnit]

theorem Memory.read_of_cell? {m : Memory} {x : Nat} {b : Byte} (h : m.cell? x = some b) : m.read x = b := by
  simp [Memory.read, h]

theorem Memory.read_congr_cell? {m₁ m₂ : Memory} {x : Nat} (h : m₁.cell? x = m₂.cell? x) :
    m₁.read x = m₂.read x := by simp [Memory.read, h]

/-- MemWrite writes no cell outside its window. -/
theorem Memory.cell?_writeBytes_outside (m : Memory) (a : Nat) (bs : List Byte) (x : Nat)
    (h : x < a ∨ a + bs.length ≤ x) : (m.writeBytes a bs).cell? x = m.cell? x := by
  induction bs generalizing m a with
  | nil => rfl
  | cons b bs ih =>
    rw [List.length_cons] at h
    rw [writeBytes, ih _ _ (by omega), cell?_write, if_neg (by omega)]

/-- MemWrite puts byte k of the list in the cell at `a + k`. -/
theorem Memory.cell?_writeBytes_window (m : Memory) (a : Nat) (bs : List Byte) (k : Nat)
    (h : k < bs.length) : (m.writeBytes a bs).cell? (a + k) = bs[k]? := by
  induction bs generalizing m a k with
  | nil => cases h
  | cons b bs ih =>
    cases k with
    | zero => rw [writeBytes, cell?_writeBytes_outside _ _ _ _ (by omega), cell?_write]; simp
    | succ k =>
      rw [List.getElem?_cons_succ, ← ih (m.write a b) (a + 1) k (Nat.lt_of_succ_lt_succ h), writeBytes,
        add_right_comm, add_assoc]

/-! ### Runs of moves -/

theorem runMoves_cons {m : Move} {ms : List Move} {s t : State} (h : runMove m s = .next t) :
    runMoves (m :: ms) s = runMoves ms t := by simp [runMoves, h]

theorem runMoves_append {ms₁ ms₂ : List Move} {s t : State} (h : runMoves ms₁ s = .next t) :
    runMoves (ms₁ ++ ms₂) s = runMoves ms₂ t := by
  induction ms₁ generalizing s with
  | nil => cases h; rfl
  | cons m ms₁ ih =>
    cases hm : runMove m s with
    | next s₁ =>
      rw [List.cons_append, runMoves_cons hm]
      exact ih (runMoves_cons hm ▸ h)
    | fault r => simp [runMoves, hm] at h
    | refused r => simp [runMoves, hm] at h

/-! ### One access -/

/-- What the access to byte `k` makes of a flight and of BUF; an access that is not outstanding changes neither
(log 7). -/
def Flight.access (k : Nat) (m : Memory) : Flight → Flight × Memory
  | .respond r => (.respond r, m)
  | .read tok o got =>
    (.read tok o (if got[k]? = some none then got.set k (some (m.read (o + k))) else got), m)
  | .write base o bs todo =>
    match bs[k]? with
    | none => (.write base o bs todo, m)
    | some b => if k ∈ todo then (.write base o bs (todo.erase k), m.write (base + k) b)
      else (.write base o bs todo, m)

/-- Unit `u`, else as `c`, has come to a flight, and BUF to a memory. -/
def State.fly (s : State) (u : Nat) (c : CodecUnit) (p : Flight × Memory) : State :=
  (s.setBuf p.2).setUnit u { c with flight := some p.1 }

@[simp] theorem State.fly_buf (s : State) (u : Nat) (c : CodecUnit) (p : Flight × Memory) :
    (s.fly u c p).buf = p.2 := rfl

theorem State.fly_unit (s : State) (u : Nat) (c d : CodecUnit) (p : Flight × Memory)
    (h : s.units[u]? = some d) : (s.fly u c p).units[u]? = some { c with flight := some p.1 } :=
  State.setUnit_same (s.setBuf p.2) u _ d h

theorem State.fly_other (s : State) (u v : Nat) (c : CodecUnit) (p : Flight × Memory) (h : v ≠ u) :
    (s.fly u c p).units[v]? = s.units[v]? := State.setUnit_other (s.setBuf p.2) u v _ h

@[simp] theorem State.fly_fly (s : State) (u : Nat) (c : CodecUnit) (p q : Flight × Memory) :
    (s.fly u c p).fly u c q = s.fly u c q := State.setUnit_setUnit (s.setBuf q.2) u _ _

/-- A state whose unit `u` is in flight has come to that flight and to its own BUF. -/
theorem State.fly_self (s : State) (u : Nat) (c : CodecUnit) (f : Flight)
    (h : s.units[u]? = some { c with flight := some f }) : s.fly u c (f, s.buf) = s := s.setUnit_self u _ h

theorem accessByte_of_flight (u k : Nat) (s : State) (c : CodecUnit) (f : Flight)
    (h : s.units[u]? = some { c with flight := some f }) :
    accessByte u k s = .next (s.fly u c (f.access k s.buf)) := by
  have hself := s.fly_self u c f h
  rw [accessByte, s.onUnit_of_unit u _ _ h]
  cases f with
  | respond r => exact congrArg _ hself.symm
  | read tok o got =>
    by_cases hk : got[k]? = some none
    · simp [Flight.access, hk, State.fly, State.setBuf]
    · simpa [Flight.access, hk] using hself.symm
  | write base o bs todo =>
    cases hb : bs[k]? with
    | none => simpa [Flight.access, hb] using hself.symm
    | some b =>
      by_cases hk : k ∈ todo
      · simp [Flight.access, hb, hk, State.fly]
      · simpa [Flight.access, hb, hk] using hself.symm

/-- A unit with nothing in flight makes no access (log 7). -/
theorem accessByte_of_noFlight (u k : Nat) (s : State) (c : CodecUnit) (hc : s.units[u]? = some c)
    (h : c.flight = none) : accessByte u k s = .next s := by
  rw [accessByte, s.onUnit_of_unit u _ c hc]
  simp [h]

/-! ### The accesses of one unit, with nothing between them -/

/-- What a list of accesses makes of a flight and of BUF. -/
def Flight.accesses : List Nat → Flight × Memory → Flight × Memory
  | [], p => p
  | k :: ks, p => Flight.accesses ks (p.1.access k p.2)

theorem runMoves_accesses (ks : List Nat) (u : Nat) (s : State) (c : CodecUnit) (f : Flight)
    (h : s.units[u]? = some { c with flight := some f }) :
    runMoves (ks.map (.access u)) s = .next (s.fly u c (Flight.accesses ks (f, s.buf))) := by
  induction ks generalizing s f with
  | nil => exact congrArg _ (s.fly_self u c f h).symm
  | cons k ks ih =>
    have hstep : runMove (.access u k) s = .next (s.fly u c (f.access k s.buf)) :=
      accessByte_of_flight u k s c f h
    rw [List.map_cons, runMoves_cons hstep, ih _ _ (s.fly_unit u c _ _ h), State.fly_fly]
    rfl

theorem runMoves_accesses_of_noFlight (ks : List Nat) (u : Nat) (s : State) (c : CodecUnit)
    (hc : s.units[u]? = some c) (h : c.flight = none) : runMoves (ks.map (.access u)) s = .next s := by
  induction ks with
  | nil => rfl
  | cons k ks ih =>
    have hstep : runMove (.access u k) s = .next s := accessByte_of_noFlight u k s c hc h
    rw [List.map_cons, runMoves_cons hstep, ih]

theorem Flight.accesses_respond (ks : List Nat) (r : Response) (m : Memory) :
    Flight.accesses ks (.respond r, m) = (.respond r, m) := by
  induction ks with
  | nil => rfl
  | cons k ks ih => exact ih

/-- The accesses of a `get` leave BUF, give each byte named that had not been read as it stands, and touch no
other. -/
theorem Flight.accesses_read (ks : List Nat) (tok : Token) (o : Nat) (got : List (Option Byte)) (m : Memory) :
    ∃ got', Flight.accesses ks (.read tok o got, m) = (.read tok o got', m) ∧ got'.length = got.length ∧
      (∀ k ∈ ks, got[k]? = some none → got'[k]? = some (some (m.read (o + k)))) ∧
      ∀ k, k ∉ ks ∨ got[k]? ≠ some none → got'[k]? = got[k]? := by
  induction ks generalizing got with
  | nil => exact ⟨got, rfl, rfl, nofun, fun _ _ => rfl⟩
  | cons i ks ih =>
    by_cases hi : got[i]? = some none
    · obtain ⟨got', heq, hlen, hread, hkept⟩ := ih (got.set i (some (m.read (o + i))))
      have hlt : i < got.length := (List.getElem?_eq_some_iff.mp hi).1
      have hset : (got.set i (some (m.read (o + i))))[i]? = some (some (m.read (o + i))) := by simp [hlt]
      refine ⟨got', by simpa [accesses, access, hi] using heq, by simpa using hlen, fun k hk hnone => ?_,
        fun k hk => ?_⟩
      · by_cases hik : i = k
        · subst hik
          rw [hkept i (.inr (by simp [hset])), hset]
        · have hmem : k ∈ ks := (List.mem_cons.mp hk).resolve_left (Ne.symm hik)
          exact hread k hmem (by rw [List.getElem?_set_ne hik, hnone])
      · have hik : i ≠ k := by
          rintro rfl
          exact hk.elim (fun h => h List.mem_cons_self) (fun h => h hi)
        rw [hkept k (hk.imp (fun h hmem => h (List.mem_cons_of_mem _ hmem))
          (fun h => by rwa [List.getElem?_set_ne hik])), List.getElem?_set_ne hik]
    · obtain ⟨got', heq, hlen, hread, hkept⟩ := ih got
      refine ⟨got', by simpa [accesses, access, hi] using heq, hlen, fun k hk hnone => ?_, fun k hk => ?_⟩
      · rcases List.mem_cons.mp hk with rfl | hmem
        · exact absurd hnone hi
        · exact hread k hmem hnone
      · exact hkept k (hk.imp_left fun h hmem => h (List.mem_cons_of_mem _ hmem))

/-- The accesses of an encode write the bytes named that were still to be written, each at its address, and no
other cell. -/
theorem Flight.accesses_write (ks : List Nat) (base o : Nat) (bs : List Byte) (todo : List Nat) (m : Memory)
    (hnodup : ks.Nodup) (hsub : ∀ k ∈ ks, k ∈ todo ∧ k < bs.length) :
    ∃ m', Flight.accesses ks (.write base o bs todo, m) = (.write base o bs (todo.diff ks), m') ∧
      (m.wf → m'.wf) ∧ (∀ k ∈ ks, m'.cell? (base + k) = bs[k]?) ∧
      ∀ x, (∀ k ∈ ks, base + k ≠ x) → m'.cell? x = m.cell? x := by
  induction ks generalizing todo m with
  | nil => exact ⟨m, by simp [accesses], id, nofun, fun _ _ => rfl⟩
  | cons i ks ih =>
    obtain ⟨hi, hnodup⟩ := List.nodup_cons.mp hnodup
    obtain ⟨⟨htodo, hlt⟩, hsub⟩ := List.forall_mem_cons.mp hsub
    have hb : bs[i]? = some bs[i] := List.getElem?_eq_getElem hlt
    have hne : ∀ k ∈ ks, k ≠ i := fun k hk h => hi (h ▸ hk)
    obtain ⟨m', heq, hwf, hwritten, hkept⟩ := ih (todo.erase i) (m.write (base + i) bs[i]) hnodup
      fun k hk => ⟨(List.mem_erase_of_ne (hne k hk)).mpr (hsub k hk).1, (hsub k hk).2⟩
    refine ⟨m', by simpa [accesses, access, hb, htodo] using heq, fun h => hwf (m.wf_write _ _ h), ?_,
      fun x hx => ?_⟩
    · refine List.forall_mem_cons.mpr ⟨?_, hwritten⟩
      rw [hkept _ (fun k hk h => hne k hk (Nat.add_left_cancel h)), Memory.cell?_write, if_pos rfl, hb]
    · obtain ⟨hx₀, hx⟩ := List.forall_mem_cons.mp hx
      rw [hkept x hx, Memory.cell?_write, if_neg (Ne.symm hx₀)]

/-- Nothing is left of a list once all of it has been taken away, in whatever order. -/
theorem diff_eq_nil_of_perm {ks todo : List Nat} (h : ks.Perm todo) : todo.diff ks = [] := by
  rw [h.diff_left]
  clear h
  induction todo with
  | nil => rfl
  | cons k todo ih => simp [ih]

/-! ### Begun, every access made, finished: the one-step command (R79, R84) -/

/-- How many byte accesses a plan makes, where it makes any. -/
def Plan.window? : Plan → Option Nat
  | .fail _ | .now _ | .flush _ => none
  | .read _ _ n => some n
  | .write _ _ bs => some bs.length

/-- Every plan of a command has the window of its token. -/
theorem planOf_window? (layout : Float80Layout) (i : Instr) (c : CodecUnit) (n : Nat)
    (h : (planOf layout i c).window? = some n) : n = i.token.length c.len := by
  cases hi : i.op <;> simp only [planOf, hi] at h
  case get =>
    obtain ⟨-, -, hp⟩ | ⟨-, ⟨-, hp⟩ | ⟨-, ⟨-, hp⟩ | ⟨-, hp⟩⟩⟩ := getPlan_cases layout i.token c <;> rw [hp] at h <;>
      cases h
    rfl
  case put =>
    obtain ⟨e, -, hp⟩ | ⟨bs, -, hlen, ⟨-, hp⟩ | ⟨-, hp⟩⟩ := putPlan_cases layout i.token c <;> rw [hp] at h <;>
      cases h
    exact hlen
  case putf =>
    obtain ⟨e, -, hp⟩ | ⟨bs, -, hlen, ⟨-, hp⟩ | ⟨-, -, hp⟩ | ⟨-, -, hp⟩⟩ := putfPlan_cases layout i.token c <;>
      rw [hp] at h <;> cases h
    exact hlen
  case length =>
    obtain ⟨-, -, hp⟩ | ⟨-, hp⟩ := lengthPlan_cases i.token c <;> rw [hp] at h <;> cases h

theorem flushPlan_window? (k : FlushContext) (n : Nat) (h : (flushPlan k).window? = some n) :
    n = k.bytes.length := by
  obtain ⟨-, hp⟩ | ⟨-, hp⟩ := flushPlan_cases k <;> rw [hp] at h <;> cases h
  rfl

theorem finishSplit_of_noFlight (u : Nat) (s : State) (c : CodecUnit) (hc : s.units[u]? = some c)
    (h : c.flight = none) : finishSplit u s = .next s := by
  rw [finishSplit, s.onUnit_of_unit u _ c hc]
  simp [h]

theorem finishSplit_of_response (u : Nat) (s : State) (c : CodecUnit) (f : Flight) (r : Response)
    (h : s.units[u]? = some { c with flight := some f }) (hr : f.response? s.params.layout = some r) :
    finishSplit u s = .next (s.setUnit u ({ c with flight := none }.respond r)) := by
  rw [finishSplit, s.onUnit_of_unit u _ _ h]
  simp [hr]

/-- The response shows nothing of the fields that were marked absent meanwhile. -/
theorem CodecUnit.respond_markAbsent (c : CodecUnit) (r : Response) (h : c.flight = none) :
    { c.markAbsent with flight := none }.respond r = c.respond r := by
  simp [CodecUnit.respond, CodecUnit.markAbsent, h]

/-- A flight whose accesses leave a response ends with BUF as they left it and the unit as in one step. -/
theorem runMoves_accesses_finish (ks : List Nat) (u : Nat) (s : State) (c d : CodecUnit) (f f' : Flight)
    (m' : Memory) (r : Response) (hd : s.units[u]? = some d) (hc : c.flight = none)
    (hks : Flight.accesses ks (f, s.buf) = (f', m')) (hr : f'.response? s.params.layout = some r) :
    runMoves (ks.map (.access u) ++ [.finish u]) (s.setUnit u { c.markAbsent with flight := some f }) =
      .next ((s.setBuf m').setUnit u (c.respond r)) := by
  let begun := s.setUnit u { c.markAbsent with flight := some f }
  have hbegun : begun.units[u]? = some { c.markAbsent with flight := some f } := s.setUnit_same u _ d hd
  have haccesses : runMoves (ks.map (.access u)) begun = .next (begun.fly u c.markAbsent (f', m')) :=
    hks ▸ runMoves_accesses ks u begun c.markAbsent f hbegun
  have hfinish : runMove (.finish u) (begun.fly u c.markAbsent (f', m')) =
      .next ((begun.fly u c.markAbsent (f', m')).setUnit u ({ c.markAbsent with flight := none }.respond r)) :=
    finishSplit_of_response u _ c.markAbsent f' r (State.fly_unit _ u _ _ _ hbegun) hr
  have hunits : (begun.fly u c.markAbsent (f', m')).setUnit u (c.respond r) =
      (s.setBuf m').setUnit u (c.respond r) := by simp [begun, State.fly, State.setUnit, State.setBuf]
  rw [runMoves_append haccesses, runMoves_cons hfinish, c.respond_markAbsent r hc, hunits]
  rfl

/-- The bytes of a window, each read once in whatever order, are MemRead's. -/
theorem Flight.accesses_read_all (ks : List Nat) (tok : Token) (o n : Nat) (m : Memory)
    (hks : ks.Perm (List.range n)) :
    Flight.accesses ks (.read tok o (List.replicate n none), m) =
      (.read tok o ((m.readBytes o n).map some), m) := by
  obtain ⟨got, heq, hlen, hread, -⟩ := Flight.accesses_read ks tok o (List.replicate n none) m
  rw [heq]
  congr
  refine List.ext_getElem? fun k => ?_
  by_cases hk : k < n
  · rw [hread k (hks.mem_iff.mpr (List.mem_range.mpr hk)) (by simp [hk]), List.getElem?_map,
      m.getElem?_readBytes o n k hk]
    rfl
  · rw [List.getElem?_eq_none (by simp at hlen; omega), List.getElem?_eq_none (by simp; omega)]

/-- The bytes of a window, each written once in whatever order, are MemWrite's. -/
theorem Flight.accesses_write_all (ks : List Nat) (base o : Nat) (bs : List Byte) (m : Memory) (hwf : m.wf)
    (hks : ks.Perm (List.range bs.length)) :
    Flight.accesses ks (.write base o bs (List.range bs.length), m) =
      (.write base o bs [], m.writeBytes base bs) := by
  have hmem (k : Nat) : k ∈ ks ↔ k < bs.length := hks.mem_iff.trans List.mem_range
  obtain ⟨m', heq, hwf', hwritten, hkept⟩ := Flight.accesses_write ks base o bs (List.range bs.length) m
    (hks.nodup_iff.mpr List.nodup_range) fun k hk => ⟨hks.mem_iff.mp hk, (hmem k).mp hk⟩
  have hcells : m' = m.writeBytes base bs := by
    refine Memory.ext_cells _ _ (hwf' hwf) (m.wf_writeBytes base bs hwf) fun x => ?_
    by_cases hx : base ≤ x ∧ x < base + bs.length
    · obtain ⟨k, rfl⟩ := Nat.exists_eq_add_of_le hx.1
      have hk : k < bs.length := by omega
      rw [hwritten k ((hmem k).mpr hk), m.cell?_writeBytes_window base bs k hk]
    · rw [hkept x (fun k hk => by have := (hmem k).mp hk; omega), m.cell?_writeBytes_outside base bs x (by omega)]
  rw [heq, diff_eq_nil_of_perm hks, hcells]

/-- Taken off, every access made once in whatever order, and finished, a plan leaves the state its one-step
carrying out leaves. -/
theorem runMoves_takeOff (s : State) (u : Nat) (c d : CodecUnit) (pl : Plan) (ks : List Nat)
    (hd : s.units[u]? = some d) (hwf : s.buf.wf) (hc : c.flight = none)
    (hks : ∀ n, pl.window? = some n → ks.Perm (List.range n)) :
    runMoves (ks.map (.access u) ++ [.finish u]) (s.takeOff u c pl) = .next (s.carryOut u c pl) := by
  have hlanded (e : CodecUnit) (he : e.flight = none) :
      runMoves (ks.map (.access u) ++ [.finish u]) (s.setUnit u e) = .next (s.setUnit u e) := by
    have hunit := s.setUnit_same u e d hd
    have hfinish : runMove (.finish u) (s.setUnit u e) = .next _ := finishSplit_of_noFlight u _ e hunit he
    rw [runMoves_append (runMoves_accesses_of_noFlight ks u _ e hunit he), runMoves_cons hfinish]
    rfl
  cases pl with
  | fail e => exact hlanded (c.raise e) hc
  | flush k => exact hlanded (c.requestFlush k) hc
  | now r => exact runMoves_accesses_finish ks u s c d _ _ _ r hd hc (Flight.accesses_respond ks r s.buf) rfl
  | read tok o n =>
    refine runMoves_accesses_finish ks u s c d _ _ _ _ hd hc
      (Flight.accesses_read_all ks tok o n s.buf (hks n rfl)) ?_
    simp [Flight.response?]
  | write base o bs =>
    exact runMoves_accesses_finish ks u s c d _ _ _ _ hd hc
      (Flight.accesses_write_all ks base o bs s.buf hwf (hks _ rfl)) rfl

theorem beginSplit_of_unit (u : Nat) (s : State) (c : CodecUnit) (hn : 1 < s.params.nUnits)
    (hc : s.units[u]? = some c) (hi : c.notIssuable = none) :
    beginSplit u s = .next ((s.latch u c).takeOff u { c with flushAck := false }
      (commandPlan s.params.layout { c with flushAck := false })) := by
  rw [beginSplit, if_neg (by omega), hc]
  cases hd : decode c.cmd <;> simp [hi, commandPlan, hd]

theorem commandPlan_window? (layout : Float80Layout) (c : CodecUnit) (n : Nat)
    (h : (commandPlan layout c).window? = some n) :
    ∃ i, decode c.cmd = .ok i ∧ n = i.token.length c.len := by
  cases hd : decode c.cmd with
  | error e => simp [commandPlan, hd, Plan.window?] at h
  | ok i => exact ⟨i, rfl, planOf_window? layout i c n (by simpa [commandPlan, hd] using h)⟩

theorem resumeSplit_of_resumable (u : Nat) (s : State) (c : CodecUnit) (k : FlushContext)
    (hn : 1 < s.params.nUnits) (hc : s.units[u]? = some c) (hk : c.ctx = some k) (hr : c.resumable = true) :
    resumeSplit u s = .next (s.takeOff u c.leaveFlush (flushPlan k)) := by
  rw [resumeSplit, if_neg (by omega), s.onUnit_of_unit u _ c hc]
  simp [hk, hr]

/-- Settles O59: the plan that is taken off, at the issue and at step 2 of a flush, is the one carried out. -/
theorem splitInAnyOrder : Obligations.SplitInAnyOrder := by
  unfold Obligations.SplitInAnyOrder
  refine ⟨fun s u c ks hn hwf hc hidle hflight hks => ?_, fun s u c k ks hn hwf hc hk hr hflight hks => ?_⟩
  · have hi : c.notIssuable = none := c.notIssuable_none.mpr ⟨hidle, hflight⟩
    have hbegin : runMove (.begin u) s = .next _ := beginSplit_of_unit u s c hn hc hi
    rw [List.cons_append, runMoves_cons hbegin, issue_of_unit u s c hc hi]
    refine runMoves_takeOff _ u _ _ _ ks (s.setUnit_same u _ c hc) hwf hflight fun n hwindow => ?_
    obtain ⟨i, hi, rfl⟩ := commandPlan_window? _ _ n hwindow
    exact hks i hi
  · have hresume : runMove (.resumeSplit u) s = .next _ := resumeSplit_of_resumable u s c k hn hc hk hr
    obtain ⟨hwait, hack⟩ : c.unitState = .flushWait ∧ c.flushAck = true := by
      simpa [CodecUnit.resumable] using hr
    rw [List.cons_append, runMoves_cons hresume, resume_of_acknowledged s u c k hc hwait hk hack]
    refine runMoves_takeOff s u _ c _ ks hc hwf hflight fun n hwindow => ?_
    exact flushPlan_window? k n hwindow ▸ hks

end Sys2Proof.Machine

/-! SUPPORT. Races at one byte of BUF (spec/20_memory.md R79, R80): what a racing move can do to the byte, what a
unit's own accesses come to among the moves of others, and the orders in which each side wins. -/

namespace Sys2Proof.Machine

/-! ### The host's accesses to a byte (R89; 43_span.md R331) -/

theorem HostWritesByte.run {s : State} {a : Nat} {b : Byte} {m : Move} (h : HostWritesByte s a b m) :
    runMove m s = .next (s.setBuf (s.buf.write a b)) := by
  rcases h with ⟨rfl, hin⟩ | ⟨v, i, w, rfl, hw, hi, rfl⟩
  · exact hostBufWrite_of_inBuf s a b hin
  · simp [runMove, hostViewWrite, hw, hi]

theorem HostReadsByte.run {s : State} {a : Nat} {m : Move} (h : HostReadsByte s a m) :
    runMove m s = .next { s with seen := some (.unsigned (s.buf.read a).toNat) } := by
  rcases h with ⟨rfl, hin⟩ | ⟨v, i, w, rfl, hw, hi, rfl⟩
  · exact hostBufRead_of_inBuf s a hin
  · simp [runMove, hostViewRead, hw, hi]

/-- Two states in which the host has the same accesses to BUF: the same addresses and the same views. -/
structure SameHostAccess (s t : State) : Prop where
  views : t.views = s.views
  inBuf : ∀ a, t.inBuf a = s.inBuf a

theorem SameHostAccess.refl (s : State) : SameHostAccess s s := ⟨rfl, fun _ => rfl⟩

theorem SameHostAccess.trans {s t r : State} (h : SameHostAccess s t) (h' : SameHostAccess t r) :
    SameHostAccess s r := ⟨h'.views.trans h.views, fun a => (h'.inBuf a).trans (h.inBuf a)⟩

theorem SameHostAccess.writesByte {s t : State} {a : Nat} {b : Byte} {m : Move} (h : SameHostAccess s t)
    (hw : HostWritesByte s a b m) : HostWritesByte t a b m := by
  simpa only [HostWritesByte, h.views, h.inBuf] using hw

theorem SameHostAccess.readsByte {s t : State} {a : Nat} {m : Move} (h : SameHostAccess s t)
    (hr : HostReadsByte s a m) : HostReadsByte t a m := by
  simpa only [HostReadsByte, h.views, h.inBuf] using hr

/-- An access of a unit keeps every BUF_SIZE and every view. -/
theorem State.fly_sameHostAccess (s : State) (u : Nat) (c : CodecUnit) (f : Flight) (p : Flight × Memory)
    (h : s.units[u]? = some { c with flight := some f }) : SameHostAccess s (s.fly u c p) := by
  refine ⟨rfl, fun a => ?_⟩
  obtain ⟨hlt, hunit⟩ := List.getElem?_eq_some_iff.mp h
  have hsizes : (s.units.set u { c with flight := some p.1 }).map CodecUnit.bufSize =
      s.units.map CodecUnit.bufSize := by
    rw [List.map_set]
    refine Eq.trans ?_ (List.set_getElem_self (as := s.units.map CodecUnit.bufSize) (i := u) (by simpa using hlt))
    simp [hunit]
  have hany (us : List CodecUnit) : us.any (fun d => a < d.bufSize) = (us.map CodecUnit.bufSize).any (a < ·) := by
    rw [List.any_map]; rfl
  show (s.units.set u _).any _ = s.units.any _
  rw [hany, hsizes, ← hany]

/-- A host write among `HostWrites` writes one of the bytes at its address. -/
theorem HostWrites.mem {s : State} {q : Nat} {hs : List Byte} {host : List Move} (h : HostWrites s q hs host)
    {m : Move} (hm : m ∈ host) : ∃ i b, hs[i]? = some b ∧ HostWritesByte s (q + i) b m := by
  obtain ⟨hlen, hbytes⟩ := h
  obtain ⟨i, hi, rfl⟩ := List.mem_iff_getElem.mp hm
  have hb : hs[i]? = some (hs[i]'(hlen ▸ hi)) := List.getElem?_eq_getElem _
  exact ⟨i, _, hb, hbytes i _ _ hb (List.getElem?_eq_getElem hi)⟩

/-- The host's writes, made in the order of their addresses with nothing between them, are MemWrite. -/
theorem HostWrites.run {s : State} {q : Nat} {hs : List Byte} {host : List Move} (h : HostWrites s q hs host) :
    runMoves host s = .next (s.setBuf (s.buf.writeBytes q hs)) := by
  induction hs generalizing s q host with
  | nil =>
    obtain rfl := List.eq_nil_of_length_eq_zero h.1
    rfl
  | cons b hs ih =>
    obtain ⟨hlen, hbytes⟩ := h
    obtain ⟨m, host, rfl⟩ := List.exists_cons_of_length_eq_add_one hlen
    have hfirst : HostWritesByte s q b m := hbytes 0 b m rfl rfl
    have hrest : HostWrites s (q + 1) hs host := by
      refine ⟨by simpa using hlen, fun k b' m' hb hm => ?_⟩
      have := hbytes (k + 1) b' m' hb hm
      rwa [show q + 1 + k = q + (k + 1) by omega]
    have hrest' : HostWrites (s.setBuf (s.buf.write q b)) (q + 1) hs host := hrest
    rw [runMoves_cons hfirst.run, ih hrest']
    rfl

/-! ### One racing move -/

/-- A flight writes at `a` nothing but bytes in `V`. -/
def Flight.Offers (V : Byte → Prop) (a : Nat) : Flight → Prop
  | .respond _ => True
  | .read _ _ _ => True
  | .write base _ bs _ => ∀ k b, base + k = a → bs[k]? = some b → V b

/-- A move that races at `a`: an access of a unit in flight, or a host write, that writes there nothing but bytes
in `V`. -/
inductive Races (V : Byte → Prop) (a : Nat) (s : State) : Move → Prop
  | access {u k : Nat} {c : CodecUnit} {f : Flight} (hunit : s.units[u]? = some { c with flight := some f })
      (hoffers : f.Offers V a) : Races V a s (.access u k)
  | host {x : Nat} {b : Byte} {m : Move} (hwrites : HostWritesByte s x b m) (hbyte : x = a → V b) :
      Races V a s m

/-- What a move makes of the flight of unit `w`: only the unit's own access changes it. -/
def Move.onFlight (m : Move) (w : Nat) (buf : Memory) (f : Flight) : Flight :=
  match m with
  | .access u k => if u = w then (f.access k buf).1 else f
  | _ => f

theorem HostWritesByte.onFlight {s : State} {x : Nat} {b : Byte} {m : Move} (h : HostWritesByte s x b m) (w : Nat)
    (buf : Memory) (f : Flight) : m.onFlight w buf f = f := by
  rcases h with ⟨rfl, -⟩ | ⟨v, i, w', rfl, -⟩ <;> rfl

/-- What a racing move does: the host's accesses stay, the byte at `a` stays or becomes one in `V`, and the
flights go on. -/
structure RaceStep (V : Byte → Prop) (a : Nat) (m : Move) (s t : State) : Prop where
  access : SameHostAccess s t
  byte : t.buf.read a = s.buf.read a ∨ V (t.buf.read a)
  flight : ∀ w (c : CodecUnit) f, s.units[w]? = some { c with flight := some f } →
    t.units[w]? = some { c with flight := some (m.onFlight w s.buf f) }
  /-- The write of a byte that was still to be written leaves a byte in `V`. -/
  lands : ∀ w (c : CodecUnit) base o bs todo j, s.units[w]? = some { c with flight := some (.write base o bs todo) } →
    m = .access w j → j ∈ todo → j < bs.length → base + j = a → V (t.buf.read a)

/-- An access of an encode writes its byte where it is still to be written, and else does nothing. -/
theorem Flight.access_write_cases (k base o : Nat) (bs : List Byte) (todo : List Nat) (m : Memory) :
    (∃ b, bs[k]? = some b ∧ k ∈ todo ∧ (Flight.write base o bs todo).access k m =
      (.write base o bs (todo.erase k), m.write (base + k) b)) ∨
    ((bs[k]? = none ∨ k ∉ todo) ∧
      (Flight.write base o bs todo).access k m = (.write base o bs todo, m)) := by
  cases hb : bs[k]? with
  | none => exact .inr ⟨.inl rfl, by simp [Flight.access, hb]⟩
  | some b =>
    by_cases hk : k ∈ todo
    · exact .inl ⟨b, rfl, hk, by simp [Flight.access, hb, hk]⟩
    · exact .inr ⟨.inr hk, by simp [Flight.access, hb, hk]⟩

section
variable {V : Byte → Prop} {a : Nat} {s t : State} {m : Move} {ms : List Move} {u : Nat} {c : CodecUnit}

theorem Flight.Offers.access {f : Flight} (h : f.Offers V a) (k : Nat) (buf : Memory) :
    (f.access k buf).1.Offers V a := by
  cases f with
  | respond r => trivial
  | read tok o got => trivial
  | write base o bs todo =>
    obtain ⟨b, -, -, heq⟩ | ⟨-, heq⟩ := Flight.access_write_cases k base o bs todo buf <;> rw [heq] <;> exact h

theorem Flight.Offers.onFlight {f : Flight} (h : f.Offers V a) (m : Move) (w : Nat) (buf : Memory) :
    (m.onFlight w buf f).Offers V a := by
  cases m with
  | access u k =>
    simp only [Move.onFlight]
    split
    · exact h.access k buf
    · exact h
  | _ => exact h

/-- What an access does to the byte at `a`. -/
theorem Flight.Offers.byte {f : Flight} (h : f.Offers V a) (k : Nat) (buf : Memory) :
    (f.access k buf).2.read a = buf.read a ∨ V ((f.access k buf).2.read a) := by
  cases f with
  | respond r => exact .inl rfl
  | read tok o got => exact .inl rfl
  | write base o bs todo =>
    obtain ⟨b, hb, -, heq⟩ | ⟨-, heq⟩ := Flight.access_write_cases k base o bs todo buf <;> rw [heq]
    · by_cases ha : base + k = a
      · exact .inr (by rw [← ha, Memory.read_write_same]; exact h k b ha hb)
      · exact .inl (buf.read_write_other _ b a (Ne.symm ha))
    · exact .inl rfl

/-- A racing move can always be made. -/
theorem Races.step (h : Races V a s m) : ∃ t, runMove m s = .next t ∧ RaceStep V a m s t := by
  cases h with
  | @access u k c f hunit hoffers =>
    refine ⟨_, accessByte_of_flight u k s c f hunit, s.fly_sameHostAccess u c f _ hunit, hoffers.byte k s.buf,
      fun w d g hw => ?_, fun w d base o bs todo j hw hm hj hlt ha => ?_⟩
    · by_cases hwu : u = w
      · subst hwu
        have hdc : ({ d with flight := some g } : CodecUnit) = { c with flight := some f } :=
          Option.some_inj.mp (hw.symm.trans hunit)
        obtain rfl : g = f := by simpa using congrArg CodecUnit.flight hdc
        rw [s.fly_unit u c _ _ hunit, Move.onFlight, if_pos rfl]
        simpa using hdc.symm
      · rw [s.fly_other u w c _ (Ne.symm hwu), hw, Move.onFlight, if_neg hwu]
    · cases hm
      have hf : f = .write base o bs todo := by
        simpa using congrArg (Option.bind · CodecUnit.flight) (hunit.symm.trans hw)
      subst hf ha
      have hb : bs[k]? = some bs[k] := List.getElem?_eq_getElem hlt
      have hv : V bs[k] := hoffers k _ rfl hb
      simpa [Flight.access, hb, hj] using hv
  | @host x b m hwrites hbyte =>
    refine ⟨_, hwrites.run, ⟨rfl, fun _ => rfl⟩, ?_, fun w d g hw => ?_, fun w d base o bs todo j hw hm => ?_⟩
    · rw [State.setBuf_buf, Memory.read_write]
      split
      · next ha => exact .inr (hbyte ha.symm)
      · exact .inl rfl
    · rw [hwrites.onFlight]; exact hw
    · subst hm
      rcases hwrites with ⟨h, -⟩ | ⟨v, i, w', h, -⟩ <;> cases h

/-- After a racing move the others still race. -/
theorem RaceStep.races (h : RaceStep V a m s t) {m' : Move} (hm' : Races V a s m') : Races V a t m' := by
  cases hm' with
  | access hunit hoffers => exact .access (h.flight _ _ _ hunit) (hoffers.onFlight m _ s.buf)
  | host hwrites hbyte => exact .host (h.access.writesByte hwrites) hbyte

theorem RaceStep.keeps (h : RaceStep V a m s t) (hV : V (s.buf.read a)) : V (t.buf.read a) :=
  h.byte.elim (fun heq => heq ▸ hV) id

/-! ### Runs of racing moves -/

/-- A property of what is left of a run and of the state that every racing move keeps holds at the end. -/
theorem runMoves_races {P : List Move → State → Prop} (hms : ∀ m ∈ ms, Races V a s m) (h : P ms s)
    (hstep : ∀ m ms s t, RaceStep V a m s t → P (m :: ms) s → P ms t) :
    ∃ t, runMoves ms s = .next t ∧ P [] t := by
  induction ms generalizing s with
  | nil => exact ⟨s, rfl, h⟩
  | cons m ms ih =>
    obtain ⟨hm, hms⟩ := List.forall_mem_cons.mp hms
    obtain ⟨t, ht, hrace⟩ := hm.step
    rw [runMoves_cons ht]
    exact ih (fun m' hm' => hrace.races (hms m' hm')) (hstep m ms s t hrace h)

/-- A byte that is in `V` stays in `V`, and the host keeps its accesses. -/
theorem runMoves_keeps (hms : ∀ m ∈ ms, Races V a s m) (hV : V (s.buf.read a)) :
    ∃ t, runMoves ms s = .next t ∧ SameHostAccess s t ∧ V (t.buf.read a) :=
  runMoves_races (P := fun _ t => SameHostAccess s t ∧ V (t.buf.read a)) hms ⟨.refl s, hV⟩
    fun _ _ _ _ hrace h => ⟨h.1.trans hrace.access, hrace.keeps h.2⟩

/-! ### An encode among racing moves -/

theorem Move.onFlight_write (m : Move) (u : Nat) (buf : Memory) (base o : Nat) (bs : List Byte) (todo : List Nat)
    (hnodup : todo.Nodup) (hlt : ∀ k ∈ todo, k < bs.length) :
    ∃ todo', m.onFlight u buf (.write base o bs todo) = .write base o bs todo' ∧ todo'.Nodup ∧
      ∀ k, k ∈ todo' ↔ k ∈ todo ∧ m ≠ .access u k := by
  by_cases hm : ∃ i ∈ todo, m = .access u i
  · obtain ⟨i, hi, rfl⟩ := hm
    have hb : bs[i]? = some (bs[i]'(hlt i hi)) := List.getElem?_eq_getElem _
    refine ⟨todo.erase i, by simp [onFlight, Flight.access, hb, hi], hnodup.erase i, fun k => ?_⟩
    rw [hnodup.mem_erase_iff]
    simp [and_comm, eq_comm]
  · refine ⟨todo, ?_, hnodup, fun k => (and_iff_left_of_imp fun hk h => hm ⟨k, hk, h⟩).symm⟩
    cases m with
    | access v i =>
      simp only [onFlight]
      split
      · next huv =>
        subst huv
        obtain ⟨b, -, hi, -⟩ | ⟨-, heq⟩ := Flight.access_write_cases i base o bs todo buf
        · exact absurd ⟨i, hi, rfl⟩ hm
        · rw [heq]
      · rfl
    | _ => rfl

/-- Where an encode of `bs` at `p` on unit `u` stands among the moves `ms`, of which `rest` are left: each byte
still to be written either has its access among `rest` or has none at all, and the byte at `a`, once written, is
in `V`. -/
def Writing (V : Byte → Prop) (a u : Nat) (c : CodecUnit) (p o : Nat) (bs : List Byte) (ms rest : List Move)
    (s : State) : Prop :=
  ∃ todo, s.units[u]? = some { c with flight := some (.write p o bs todo) } ∧ todo.Nodup ∧
    (∀ k ∈ todo, k < bs.length ∧ (.access u k ∈ ms → .access u k ∈ rest)) ∧
    ∀ j, j < bs.length → p + j = a → j ∈ todo ∨ V (s.buf.read a)

theorem Writing.step {p o : Nat} {bs : List Byte} {all : List Move} (h : Writing V a u c p o bs all (m :: ms) s)
    (hrace : RaceStep V a m s t) : Writing V a u c p o bs all ms t := by
  obtain ⟨todo, hunit, hnodup, htodo, hbyte⟩ := h
  obtain ⟨todo', heq, hnodup', hmem⟩ :=
    m.onFlight_write u s.buf p o bs todo hnodup fun k hk => (htodo k hk).1
  refine ⟨todo', heq ▸ hrace.flight u c _ hunit, hnodup', fun k hk => ?_, fun j hj ha => ?_⟩
  · obtain ⟨hk, hne⟩ := (hmem k).mp hk
    obtain ⟨hlt, hrest⟩ := htodo k hk
    exact ⟨hlt, fun hall => (List.mem_cons.mp (hrest hall)).resolve_left (Ne.symm hne)⟩
  · by_cases hj' : j ∈ todo'
    · exact .inl hj'
    · refine .inr ((hbyte j hj ha).elim (fun htodo => ?_) hrace.keeps)
      have hm : m = .access u j := by_contra fun hne => hj' ((hmem j).mpr ⟨htodo, hne⟩)
      exact hrace.lands u c p o bs todo j hunit hm htodo hj ha

/-- A run of racing moves that starts with all of `bs` still to be written. -/
theorem runMoves_writing (hms : ∀ m ∈ ms, Races V a s m) {p o : Nat} {bs : List Byte}
    (hunit : s.units[u]? = some { c with flight := some (.write p o bs (List.range bs.length)) }) :
    ∃ t, runMoves ms s = .next t ∧ Writing V a u c p o bs ms [] t := by
  refine runMoves_races hms ?_ fun m rest s t hrace h => h.step hrace
  exact ⟨_, hunit, List.nodup_range, fun k hk => ⟨List.mem_range.mp hk, id⟩,
    fun j hj _ => .inl (List.mem_range.mpr hj)⟩

/-- Where every access has been made nothing is left to be written. -/
theorem Writing.complete {p o : Nat} {bs : List Byte} (h : Writing V a u c p o bs ms [] t)
    (hall : ∀ k, k < bs.length → .access u k ∈ ms) :
    t.units[u]? = some { c with flight := some (.write p o bs []) } := by
  obtain ⟨todo, hunit, -, htodo, -⟩ := h
  obtain rfl : todo = [] := List.eq_nil_iff_forall_not_mem.mpr fun k hk =>
    List.not_mem_nil ((htodo k hk).2 (hall k (htodo k hk).1))
  exact hunit

/-- An encode with nothing left to be written has left a byte in `V`. -/
theorem Writing.byte {p o : Nat} {bs : List Byte} {rest : List Move} (h : Writing V a u c p o bs ms rest t)
    (hdone : t.units[u]? = some { c with flight := some (.write p o bs []) }) (j : Nat) (hj : j < bs.length)
    (ha : p + j = a) : V (t.buf.read a) := by
  obtain ⟨todo, hunit, -, -, hbyte⟩ := h
  obtain rfl : todo = [] := by
    simpa using congrArg (Option.bind · CodecUnit.flight) (hunit.symm.trans hdone)
  exact (hbyte j hj ha).resolve_left List.not_mem_nil

/-! ### A get among racing moves -/

theorem Move.onFlight_read (m : Move) (u : Nat) (buf : Memory) (tok : Token) (o : Nat) (got : List (Option Byte)) :
    ∃ got', m.onFlight u buf (.read tok o got) = .read tok o got' ∧ got'.length = got.length ∧
      (∀ k, got'[k]? = some none → got[k]? = some none ∧ m ≠ .access u k) ∧
      ∀ k b, got'[k]? = some (some b) → got[k]? = some (some b) ∨ b = buf.read (o + k) := by
  by_cases hm : ∃ i, got[i]? = some none ∧ m = .access u i
  · obtain ⟨i, hi, rfl⟩ := hm
    have hlt : i < got.length := (List.getElem?_eq_some_iff.mp hi).1
    refine ⟨got.set i (some (buf.read (o + i))), by simp [onFlight, Flight.access, hi], by simp, fun k hk => ?_,
      fun k b hb => ?_⟩ <;> by_cases hik : i = k
    · subst hik; simp [hlt] at hk
    · exact ⟨by rwa [List.getElem?_set_ne hik] at hk, by simpa using hik⟩
    · subst hik; exact .inr (by simpa [hlt] using hb.symm)
    · exact .inl (by rwa [List.getElem?_set_ne hik] at hb)
  · refine ⟨got, ?_, rfl, fun k hk => ⟨hk, fun h => hm ⟨k, hk, h⟩⟩, fun k b hb => .inl hb⟩
    cases m with
    | access v i =>
      simp only [onFlight]
      split
      · next huv =>
        subst huv
        have hi : got[i]? ≠ some none := fun hi => hm ⟨i, hi, rfl⟩
        simp [Flight.access, hi]
      · rfl
    | _ => rfl

/-- Where a `get` of n bytes at `o` on unit `u` stands among the moves `ms`, of which `rest` are left: each byte
not read yet has its access among `rest` or has none at all, and the byte at `a`, in BUF and as read, is in `V`. -/
def Reading (V : Byte → Prop) (a u : Nat) (c : CodecUnit) (tok : Token) (o n : Nat) (ms rest : List Move)
    (s : State) : Prop :=
  ∃ got : List (Option Byte), s.units[u]? = some { c with flight := some (.read tok o got) } ∧ got.length = n ∧
    (∀ k, got[k]? = some none → .access u k ∈ ms → .access u k ∈ rest) ∧ V (s.buf.read a) ∧
    ∀ k b, o + k = a → got[k]? = some (some b) → V b

theorem Reading.step {tok : Token} {o n : Nat} {all : List Move} (h : Reading V a u c tok o n all (m :: ms) s)
    (hrace : RaceStep V a m s t) : Reading V a u c tok o n all ms t := by
  obtain ⟨got, hunit, hlen, hleft, hbuf, hgot⟩ := h
  obtain ⟨got', heq, hlen', hnone, hsome⟩ := m.onFlight_read u s.buf tok o got
  refine ⟨got', heq ▸ hrace.flight u c _ hunit, hlen'.trans hlen, fun k hk hall => ?_, hrace.keeps hbuf,
    fun k b ha hb => ?_⟩
  · obtain ⟨hk, hne⟩ := hnone k hk
    exact (List.mem_cons.mp (hleft k hk hall)).resolve_left (Ne.symm hne)
  · rcases hsome k b hb with hold | rfl
    · exact hgot k b ha hold
    · exact ha ▸ hbuf

/-- A run of racing moves that starts with no byte read. -/
theorem runMoves_reading (hms : ∀ m ∈ ms, Races V a s m) {tok : Token} {o n : Nat}
    (hunit : s.units[u]? = some { c with flight := some (.read tok o (List.replicate n none)) })
    (hV : V (s.buf.read a)) :
    ∃ t, runMoves ms s = .next t ∧ Reading V a u c tok o n ms [] t := by
  refine runMoves_races hms ?_ fun m rest s t hrace h => h.step hrace
  exact ⟨_, hunit, List.length_replicate, fun _ _ => id, hV,
    fun k b _ hb => by simp [List.getElem?_replicate] at hb⟩

/-- What the `get` has read at `a` is in `V`. -/
theorem Reading.read_mem {tok : Token} {o n : Nat} {rest : List Move} (h : Reading V a u c tok o n ms rest t)
    {got : List (Option Byte)} (hunit : t.units[u]? = some { c with flight := some (.read tok o got) }) (j : Nat)
    (b : Byte) (ha : o + j = a) (hb : got[j]? = some (some b)) : V b := by
  obtain ⟨got', hunit', -, -, -, hgot⟩ := h
  obtain rfl : got' = got := by
    simpa using congrArg (Option.bind · CodecUnit.flight) (hunit'.symm.trans hunit)
  exact hgot j b ha hb

/-- A byte whose access has been made has been read, and where it is the byte at `a` it is in `V`. -/
theorem Reading.read {tok : Token} {o n : Nat} (h : Reading V a u c tok o n ms [] t) {got : List (Option Byte)}
    (hunit : t.units[u]? = some { c with flight := some (.read tok o got) }) (j : Nat) (hj : j < n)
    (hmem : .access u j ∈ ms) (ha : o + j = a) : ∃ b, got[j]? = some (some b) ∧ V b := by
  have hV := h.read_mem hunit j
  obtain ⟨got', hunit', rfl, hleft, -⟩ := h
  obtain rfl : got' = got := by
    simpa using congrArg (Option.bind · CodecUnit.flight) (hunit'.symm.trans hunit)
  cases hb : got'[j] with
  | none => cases hleft j (by rw [List.getElem?_eq_getElem hj, hb]) hmem
  | some b =>
    have hb' : got'[j]? = some (some b) := by rw [List.getElem?_eq_getElem hj, hb]
    exact ⟨b, hb', hV b ha hb'⟩

end

end Sys2Proof.Machine

/-! SUPPORT. The orders in which each side of a race wins, and the statement of all of a race's outcomes
(spec/20_memory.md R80): a unit's accesses before and after the writes of another agent. -/

namespace Sys2Proof.Machine

section
variable {s : State} {u v : Nat} {c d : CodecUnit}

theorem State.unit_inFlight {f : Flight} (hc : s.units[u]? = some c) (hf : c.flight = some f) :
    s.units[u]? = some { c with flight := some f } := by rw [hc, ← hf]

/-! ### A block of writes of another agent -/

/-- Two states that differ in BUF and in unit `u` alone. -/
structure Beside (u : Nat) (s t : State) : Prop where
  access : SameHostAccess s t
  others : ∀ w, w ≠ u → t.units[w]? = s.units[w]?

theorem State.fly_beside (p : Flight × Memory) {f : Flight}
    (hunit : s.units[u]? = some { c with flight := some f }) : Beside u s (s.fly u c p) :=
  ⟨s.fly_sameHostAccess u c f p hunit, fun w hw => s.fly_other u w c p hw⟩

/-- From every state that differs from `s` in BUF and unit `u` alone, the moves write `hs` at `q`, leave unit `u`
alone, and bring the others to `after`. -/
def WritesBeside (u : Nat) (s : State) (q : Nat) (hs : List Byte) (ms : List Move)
    (after : Nat → Option CodecUnit) : Prop :=
  ∀ s', Beside u s s' → ∃ t, runMoves ms s' = .next t ∧
    (∀ k b, hs[k]? = some b → t.buf.read (q + k) = b) ∧ t.units[u]? = s'.units[u]? ∧
    ∀ w, w ≠ u → t.units[w]? = after w

theorem HostWrites.beside {q : Nat} {hs : List Byte} {host : List Move} (h : HostWrites s q hs host) (u : Nat) :
    WritesBeside u s q hs host (s.units[·]?) := by
  intro s' hs'
  have hhost : HostWrites s' q hs host :=
    ⟨h.1, fun k b m hb hm => hs'.access.writesByte (h.2 k b m hb hm)⟩
  refine ⟨_, hhost.run, fun k b hb => ?_, rfl, hs'.others⟩
  have hk : k < hs.length := (List.getElem?_eq_some_iff.mp hb).1
  exact Option.some_inj.mp ((s'.buf.getElem?_eq_read_writeBytes q hs k hk).symm.trans hb)

/-- The writes of unit `v`, all of them in the order of their addresses. -/
theorem writesBeside_of_unit {q o : Nat} {hs : List Byte} (hne : u ≠ v)
    (hv : s.units[v]? = some { d with flight := some (.write q o hs (List.range hs.length)) }) :
    WritesBeside u s q hs ((List.range hs.length).map (.access v))
      (Function.update (s.units[·]?) v (some { d with flight := some (.write q o hs []) })) := by
  intro s' hs'
  have hv' := (hs'.others v (Ne.symm hne)).trans hv
  obtain ⟨m', heq, -, hwritten, -⟩ := Flight.accesses_write (List.range hs.length) q o hs _ s'.buf
    List.nodup_range fun k hk => ⟨hk, List.mem_range.mp hk⟩
  rw [diff_eq_nil_of_perm (List.Perm.refl _)] at heq
  refine ⟨_, runMoves_accesses _ v s' d _ hv', fun k b hb => ?_, s'.fly_other v u d _ hne, fun w hw => ?_⟩
  · have hk : k < hs.length := (List.getElem?_eq_some_iff.mp hb).1
    rw [State.fly_buf, heq]
    exact Memory.read_of_cell? ((hwritten k (List.mem_range.mpr hk)).trans hb)
  · rw [heq]
    by_cases hwv : w = v
    · subst hwv
      rw [s'.fly_unit w d _ _ hv', Function.update_self]
    · rw [s'.fly_other v w d _ hwv, Function.update_of_ne hwv, hs'.others w hw]

/-- Some accesses of unit `u`, then the writes of another agent, then more accesses of unit `u`. -/
theorem runMoves_around {q : Nat} {hs : List Byte} {ms : List Move} {after : Nat → Option CodecUnit} {f f₁ : Flight}
    {m₁ : Memory} (ks₁ ks₂ : List Nat) (hunit : s.units[u]? = some { c with flight := some f })
    (h₁ : Flight.accesses ks₁ (f, s.buf) = (f₁, m₁)) (hms : WritesBeside u s q hs ms after) :
    ∃ m, (∀ k b, hs[k]? = some b → m.read (q + k) = b) ∧
      ∃ t, runMoves (ks₁.map (.access u) ++ (ms ++ ks₂.map (.access u))) s = .next t ∧
        t.buf = (Flight.accesses ks₂ (f₁, m)).2 ∧
        t.units[u]? = some { c with flight := some (Flight.accesses ks₂ (f₁, m)).1 } ∧
        ∀ w, w ≠ u → t.units[w]? = after w := by
  have hrun₁ := runMoves_accesses ks₁ u s c f hunit
  rw [h₁] at hrun₁
  obtain ⟨t, hrun, hbytes, hsame, hafter⟩ := hms _ (State.fly_beside (f₁, m₁) hunit)
  have ht : t.units[u]? = some { c with flight := some f₁ } := hsame.trans (s.fly_unit u c _ _ hunit)
  refine ⟨t.buf, hbytes, t.fly u c (Flight.accesses ks₂ (f₁, t.buf)), ?_, rfl, t.fly_unit u c _ _ ht,
    fun w hw => (t.fly_other u w c _ hw).trans (hafter w hw)⟩
  rw [runMoves_append hrun₁, runMoves_append hrun, runMoves_accesses ks₂ u t c f₁ ht]

/-! ### Every choice of a winner -/

/-- The accesses of an encode whose bytes are to lose go before the other agent's writes, those that are to win
after them. -/
theorem exists_order_of_writes {p o q : Nat} {bs hs : List Byte} {ms : List Move} {after : Nat → Option CodecUnit}
    (hunit : s.units[u]? = some { c with flight := some (.write p o bs (List.range bs.length)) })
    (hms : WritesBeside u s q hs ms after) (choice : Nat → Bool) :
    ∃ (ks₁ ks₂ : List Nat) (t : State), (ks₁ ++ ks₂).Perm (List.range bs.length) ∧
      runMoves (ks₁.map (.access u) ++ (ms ++ ks₂.map (.access u))) s = .next t ∧
      t.units[u]? = some { c with flight := some (.write p o bs []) } ∧
      (∀ w, w ≠ u → t.units[w]? = after w) ∧
      ∀ j k, j < bs.length → k < hs.length → p + j = q + k →
        some (t.buf.read (p + j)) = if choice (p + j) then bs[j]? else hs[k]? := by
  let lost (k : Nat) : Bool := !choice (p + k)
  let ks₁ := (List.range bs.length).filter lost
  let ks₂ := (List.range bs.length).filter fun k => !lost k
  have hperm : (ks₁ ++ ks₂).Perm (List.range bs.length) := List.filter_append_perm lost _
  have hmem₁ (k : Nat) : k ∈ ks₁ ↔ k < bs.length ∧ choice (p + k) = false := by simp [ks₁, lost]
  have hmem₂ (k : Nat) : k ∈ ks₂ ↔ k < bs.length ∧ choice (p + k) = true := by simp [ks₂, lost]
  obtain ⟨m₁, h₁, -, -, -⟩ := Flight.accesses_write ks₁ p o bs (List.range bs.length) s.buf
    (List.nodup_range.filter _) fun k hk => by simpa using ((hmem₁ k).mp hk).1
  obtain ⟨m, hbytes, t, hrun, hbuf, ht, hafter⟩ := runMoves_around ks₁ ks₂ hunit h₁ hms
  obtain ⟨m₂, h₂, -, hwon, hkept⟩ := Flight.accesses_write ks₂ p o bs ((List.range bs.length).diff ks₁) m
    (List.nodup_range.filter _) fun k hk => by
      obtain ⟨hlt, hchoice⟩ := (hmem₂ k).mp hk
      exact ⟨List.mem_diff_of_mem (List.mem_range.mpr hlt) (by simp [hmem₁, hchoice]), hlt⟩
  rw [← List.diff_append, diff_eq_nil_of_perm hperm] at h₂
  rw [h₂] at hbuf ht
  refine ⟨ks₁, ks₂, t, hperm, hrun, ht, hafter, fun j k hj hk ha => ?_⟩
  rw [hbuf]
  split
  · next hchoice =>
    have hb := List.getElem?_eq_getElem hj
    rw [Memory.read_of_cell? ((hwon j ((hmem₂ j).mpr ⟨hj, hchoice⟩)).trans hb), hb]
  · next hchoice =>
    have hb := List.getElem?_eq_getElem hk
    have huntouched : ∀ i ∈ ks₂, p + i ≠ p + j := fun i hi h =>
      hchoice (Nat.add_left_cancel h ▸ ((hmem₂ i).mp hi).2)
    rw [Memory.read_congr_cell? (hkept _ huntouched), ha, hbytes k _ hb, hb]

/-- The accesses of a `get` that are to read what BUF held go before the other agent's writes, the others after
them. -/
theorem exists_order_of_reads {tok : Token} {o n q : Nat} {hs : List Byte} {ms : List Move}
    {after : Nat → Option CodecUnit}
    (hunit : s.units[u]? = some { c with flight := some (.read tok o (List.replicate n none)) })
    (hms : WritesBeside u s q hs ms after) (choice : Nat → Bool) :
    ∃ (ks₁ ks₂ : List Nat) (t : State) (got : List (Option Byte)), (ks₁ ++ ks₂).Perm (List.range n) ∧
      runMoves (ks₁.map (.access u) ++ (ms ++ ks₂.map (.access u))) s = .next t ∧
      t.units[u]? = some { c with flight := some (.read tok o got) } ∧
      (∀ w, w ≠ u → t.units[w]? = after w) ∧
      ∀ j k, j < n → k < hs.length → o + j = q + k →
        got[j]? = some (if choice j then some (s.buf.read (o + j)) else hs[k]?) := by
  let ks₁ := (List.range n).filter choice
  let ks₂ := (List.range n).filter fun k => !choice k
  have hperm : (ks₁ ++ ks₂).Perm (List.range n) := List.filter_append_perm choice _
  obtain ⟨got₁, h₁, -, hearly, hlate⟩ := Flight.accesses_read ks₁ tok o (List.replicate n none) s.buf
  obtain ⟨m, hbytes, t, hrun, -, ht, hafter⟩ := runMoves_around ks₁ ks₂ hunit h₁ hms
  obtain ⟨got, h₂, -, hread, hkept⟩ := Flight.accesses_read ks₂ tok o got₁ m
  rw [h₂] at ht
  refine ⟨ks₁, ks₂, t, got, hperm, hrun, ht, hafter, fun j k hj hk ha => ?_⟩
  have hnone : (List.replicate n (none : Option Byte))[j]? = some none := by simp [hj]
  split
  · next hchoice =>
    have hgot₁ := hearly j (by simp [ks₁, hj, hchoice]) hnone
    rw [hkept j (.inr (by simp [hgot₁])), hgot₁]
  · next hchoice =>
    have hgot₁ := (hlate j (.inl (by simp [ks₁, hchoice]))).trans hnone
    have hb := List.getElem?_eq_getElem hk
    rw [hread j (by simp [ks₂, hj, hchoice]) hgot₁, ha, hbytes k _ hb, hb]

end

section
variable {V : Byte → Prop} {a : Nat} {s t : State} {u v : Nat} {c d : CodecUnit}

/-! ### The two sides of a race at one byte -/

/-- The byte is one of two; `none` stands for no byte at all. -/
def OneOf (x y : Option Byte) (b : Byte) : Prop := some b = x ∨ some b = y

/-- An encode offers at the address of its byte `j` nothing but that byte. -/
theorem Flight.offers_write {p o j : Nat} {bs : List Byte} (todo : List Nat) (hj : ∀ b, bs[j]? = some b → V b) :
    (Flight.write p o bs todo).Offers V (p + j) := by
  intro k b hk hb
  obtain rfl : k = j := Nat.add_left_cancel hk
  exact hj b hb

theorem HostWrites.races {q k : Nat} {hs : List Byte} {host : List Move} (h : HostWrites s q hs host)
    (hk : ∀ b, hs[k]? = some b → V b) : ∀ m ∈ host, Races V (q + k) s m := by
  intro m hm
  obtain ⟨i, b, hb, hwrites⟩ := h.mem hm
  refine .host hwrites fun ha => ?_
  obtain rfl : i = k := Nat.add_left_cancel ha
  exact hk b hb

/-- Where nothing is asked of the bytes written, every access and every host write races. -/
theorem HostWrites.races_trivially {q : Nat} {hs : List Byte} {host : List Move} (h : HostWrites s q hs host) :
    ∀ m ∈ host, Races (fun _ => True) a s m := by
  intro m hm
  obtain ⟨i, b, -, hwrites⟩ := h.mem hm
  exact .host hwrites fun _ => trivial

theorem Flight.offers_trivially (f : Flight) : f.Offers (fun _ => True) a := by
  cases f with
  | respond | read => trivial
  | write => exact fun _ _ _ _ => trivial

/-- The moves of two units race where the accesses of both do. -/
theorem races_of_units {ms : List Move} (hms : ∀ m ∈ ms, ∃ k, m = .access u k ∨ m = .access v k)
    (hu : ∀ k, Races V a s (.access u k)) (hv : ∀ k, Races V a s (.access v k)) : ∀ m ∈ ms, Races V a s m := by
  intro m hm
  obtain ⟨k, rfl | rfl⟩ := hms m hm
  · exact hu k
  · exact hv k

/-- The moves of a unit and the host, in any order, race where those of both do. -/
theorem races_of_perm {ms host : List Move} {n : Nat} (hms : ms.Perm ((List.range n).map (.access u) ++ host))
    (hu : ∀ k, Races V a s (.access u k)) (hhost : ∀ m ∈ host, Races V a s m) : ∀ m ∈ ms, Races V a s m := by
  intro m hm
  rcases List.mem_append.mp (hms.mem_iff.mp hm) with hm | hm
  · obtain ⟨k, -, rfl⟩ := List.mem_map.mp hm
    exact hu k
  · exact hhost m hm

theorem access_mem_of_perm {ms host : List Move} {n k : Nat}
    (hms : ms.Perm ((List.range n).map (.access u) ++ host)) (hk : k < n) : .access u k ∈ ms :=
  hms.mem_iff.mpr (List.mem_append_left _ (List.mem_map_of_mem (List.mem_range.mpr hk)))

/-- A unit's accesses in two parts around the other moves are the same moves in another order. -/
theorem around_perm {ks₁ ks₂ : List Nat} {n : Nat} (ms : List Move) (h : (ks₁ ++ ks₂).Perm (List.range n)) :
    (ks₁.map (Move.access u) ++ (ms ++ ks₂.map (Move.access u))).Perm
      ((List.range n).map (Move.access u) ++ ms) := by
  have hswap : (ks₁.map (Move.access u) ++ (ms ++ ks₂.map (Move.access u))).Perm
      ((ks₁ ++ ks₂).map (Move.access u) ++ ms) := by
    simpa using (List.perm_append_comm (l₁ := ms)).append_left (ks₁.map (Move.access u))
  exact hswap.trans ((h.map _).append_right ms)

theorem around_accesses (ks₁ ks₂ ks : List Nat) :
    ∀ m ∈ ks₁.map (Move.access u) ++ (ks.map (Move.access v) ++ ks₂.map (Move.access u)),
      ∃ k, m = Move.access u k ∨ m = Move.access v k := by
  intro m hm
  simp only [List.mem_append, List.mem_map] at hm
  obtain ⟨k, -, rfl⟩ | ⟨k, -, rfl⟩ | ⟨k, -, rfl⟩ := hm
  · exact ⟨k, .inl rfl⟩
  · exact ⟨k, .inr rfl⟩
  · exact ⟨k, .inl rfl⟩

theorem runMoves_unique {ms : List Move} {t' : State} (h : runMoves ms s = .next t) (h' : runMoves ms s = .next t') :
    t' = t := by
  rw [h] at h'
  cases h'
  rfl

/-! ### The five races of R80 -/

/-- Two encodes that have ended: a shared byte is one of the two written there. -/
theorem writers_race {p₁ o₁ p₂ o₂ j k : Nat} {bs₁ bs₂ : List Byte} {ms : List Move}
    (hu : s.units[u]? = some { c with flight := some (.write p₁ o₁ bs₁ (List.range bs₁.length)) })
    (hv : s.units[v]? = some { d with flight := some (.write p₂ o₂ bs₂ (List.range bs₂.length)) })
    (hms : ∀ m ∈ ms, ∃ k, m = .access u k ∨ m = .access v k) (hrun : runMoves ms s = .next t)
    (hdone : t.units[u]? = some { c with flight := some (.write p₁ o₁ bs₁ []) }) (hj : j < bs₁.length)
    (ha : p₁ + j = p₂ + k) : some (t.buf.read (p₁ + j)) = bs₁[j]? ∨ some (t.buf.read (p₁ + j)) = bs₂[k]? := by
  have hraces : ∀ m ∈ ms, Races (OneOf bs₁[j]? bs₂[k]?) (p₁ + j) s m := races_of_units hms
    (fun _ => .access hu (Flight.offers_write _ fun b hb => .inl hb.symm))
    (fun _ => .access hv (ha ▸ Flight.offers_write _ fun b hb => .inr hb.symm))
  obtain ⟨t', hrun', hwriting⟩ := runMoves_writing hraces hu
  obtain rfl := runMoves_unique hrun' hrun
  exact hwriting.byte hdone j hj rfl

/-- A `get` and an encode: a shared byte has been read before or after its write. -/
theorem reader_and_writer_race {tok : Token} {o₁ n p₂ o₂ j k : Nat} {bs₂ : List Byte} {ms : List Move}
    {got : List (Option Byte)} {b : Byte}
    (hu : s.units[u]? = some { c with flight := some (.read tok o₁ (List.replicate n none)) })
    (hv : s.units[v]? = some { d with flight := some (.write p₂ o₂ bs₂ (List.range bs₂.length)) })
    (hms : ∀ m ∈ ms, ∃ k, m = .access u k ∨ m = .access v k) (hrun : runMoves ms s = .next t)
    (hgot : t.units[u]? = some { c with flight := some (.read tok o₁ got) }) (ha : o₁ + j = p₂ + k)
    (hb : got[j]? = some (some b)) : b = s.buf.read (o₁ + j) ∨ bs₂[k]? = some b := by
  have hraces : ∀ m ∈ ms, Races (OneOf (s.buf.read (o₁ + j)) bs₂[k]?) (o₁ + j) s m := races_of_units hms
    (fun _ => .access hu trivial) (fun _ => .access hv (ha ▸ Flight.offers_write _ fun b hb => .inr hb.symm))
  obtain ⟨t', hrun', hreading⟩ := runMoves_reading hraces hu (.inl rfl)
  obtain rfl := runMoves_unique hrun' hrun
  exact (hreading.read_mem hgot j b rfl hb).imp Option.some_inj.mp Eq.symm

/-- An encode and host writes, in every order of all of them: a shared byte is one of the two written there. -/
theorem writer_and_host_race {p o q : Nat} {bs hs : List Byte} {host ms : List Move}
    (hu : s.units[u]? = some { c with flight := some (.write p o bs (List.range bs.length)) })
    (hhost : HostWrites s q hs host) (hms : ms.Perm ((List.range bs.length).map (.access u) ++ host)) :
    ∃ t, runMoves ms s = .next t ∧ t.units[u]? = some { c with flight := some (.write p o bs []) } ∧
      ∀ j k, j < bs.length → k < hs.length → p + j = q + k →
        some (t.buf.read (p + j)) = bs[j]? ∨ some (t.buf.read (p + j)) = hs[k]? := by
  obtain ⟨t, hrun, hwriting⟩ := runMoves_writing (a := 0)
    (races_of_perm hms (fun _ => .access hu (Flight.offers_trivially _)) hhost.races_trivially) hu
  have hdone := hwriting.complete fun k => access_mem_of_perm hms
  refine ⟨t, hrun, hdone, fun j k hj _ ha => ?_⟩
  have hraces : ∀ m ∈ ms, Races (OneOf bs[j]? hs[k]?) (p + j) s m := races_of_perm hms
    (fun _ => .access hu (Flight.offers_write _ fun b hb => .inl hb.symm))
    (ha ▸ hhost.races fun b hb => .inr hb.symm)
  obtain ⟨t', hrun', hwriting'⟩ := runMoves_writing hraces hu
  obtain rfl := runMoves_unique hrun' hrun
  exact hwriting'.byte hdone j hj rfl

/-- A `get` and host writes, in every order of all of them: a shared byte is read before or after its write. -/
theorem reader_and_host_race {tok : Token} {o n q : Nat} {hs : List Byte} {host ms : List Move}
    (hu : s.units[u]? = some { c with flight := some (.read tok o (List.replicate n none)) })
    (hhost : HostWrites s q hs host) (hms : ms.Perm ((List.range n).map (.access u) ++ host)) :
    ∃ t got, runMoves ms s = .next t ∧ t.units[u]? = some { c with flight := some (.read tok o got) } ∧
      ∀ j k, j < n → k < hs.length → o + j = q + k →
        got[j]? = some (some (s.buf.read (o + j))) ∨ got[j]? = some hs[k]? := by
  obtain ⟨t, hrun, got, hunit, -⟩ := runMoves_reading (a := 0)
    (races_of_perm hms (fun _ => .access hu trivial) hhost.races_trivially) hu trivial
  refine ⟨t, got, hrun, hunit, fun j k hj _ ha => ?_⟩
  have hraces : ∀ m ∈ ms, Races (OneOf (s.buf.read (o + j)) hs[k]?) (o + j) s m := races_of_perm hms
    (fun _ => .access hu trivial) (ha ▸ hhost.races fun b hb => .inr hb.symm)
  obtain ⟨t', hrun', hreading⟩ := runMoves_reading hraces hu (.inl rfl)
  obtain rfl := runMoves_unique hrun' hrun
  obtain ⟨b, hb, hV⟩ := hreading.read hunit j hj (access_mem_of_perm hms hj) rfl
  exact hV.imp (fun h => hb.trans (congrArg some h)) (fun h => hb.trans (congrArg some h))

/-- An encode and a host read after some of its accesses: the host sees the byte as it was or as written. -/
theorem writer_and_hostRead_race {p o j : Nat} {bs : List Byte} {b : Byte} {m : Move} {ms : List Move}
    (hu : s.units[u]? = some { c with flight := some (.write p o bs (List.range bs.length)) })
    (hb : bs[j]? = some b) (hm : HostReadsByte s (p + j) m) (hms : ∀ x ∈ ms, ∃ k, x = .access u k) :
    ∃ t, runMoves (ms ++ [m]) s = .next t ∧
      (t.seen = some (.unsigned (s.buf.read (p + j)).toNat) ∨ t.seen = some (.unsigned b.toNat)) := by
  have hraces : ∀ x ∈ ms, Races (OneOf (s.buf.read (p + j)) bs[j]?) (p + j) s x := fun x hx => by
    obtain ⟨k, rfl⟩ := hms x hx
    exact .access hu (Flight.offers_write _ fun b' hb' => .inr hb'.symm)
  obtain ⟨t, hrun, haccess, hV⟩ := runMoves_keeps hraces (.inl rfl)
  refine ⟨_, (runMoves_append hrun).trans (runMoves_cons (haccess.readsByte hm).run), ?_⟩
  exact hV.imp (fun h => by rw [Option.some_inj.mp h]) (fun h => by rw [Option.some_inj.mp (h.trans hb)])

/-- A host read after the access to its byte gives the byte written. -/
theorem hostRead_after_write {p o j : Nat} {bs : List Byte} {b : Byte} {m : Move}
    (hu : s.units[u]? = some { c with flight := some (.write p o bs (List.range bs.length)) })
    (hb : bs[j]? = some b) (hm : HostReadsByte s (p + j) m) :
    ∃ t, runMoves [.access u j, m] s = .next t ∧ t.seen = some (.unsigned b.toNat) := by
  let written := (Flight.write p o bs (List.range bs.length)).access j s.buf
  have hj : j < bs.length := (List.getElem?_eq_some_iff.mp hb).1
  have hbyte : written.2.read (p + j) = b := by
    simpa [written, Flight.access, hj] using (List.getElem?_eq_some_iff.mp hb).2
  have haccess : runMove (.access u j) s = .next (s.fly u c written) := accessByte_of_flight u j s c _ hu
  have hread := ((s.fly_sameHostAccess u c _ written hu).readsByte hm).run
  exact ⟨_, (runMoves_cons haccess).trans (runMoves_cons hread), by rw [State.fly_buf, hbyte]⟩

end

/-- Settles O60: for every choice the order around the other agent's writes that makes it, and in every order the
invariant of the racing byte. -/
theorem raceOutcomes : Obligations.RaceOutcomes := by
  unfold Obligations.RaceOutcomes
  refine ⟨?writers, ?readerWriter, ?writerHost, ?readerHost, ?hostRead⟩
  case writers =>
    intro s u v c d p₁ o₁ p₂ o₂ bs₁ bs₂ hne hc hd hfc hfd
    have hu := s.unit_inFlight hc hfc
    have hv := s.unit_inFlight hd hfd
    refine ⟨fun choice => ?_, fun ms t hms hrun hdone _ j k hj _ ha => writers_race hu hv hms hrun hdone hj ha⟩
    obtain ⟨ks₁, ks₂, t, -, hrun, hunit, hafter, hbytes⟩ :=
      exists_order_of_writes hu (writesBeside_of_unit hne hv) choice
    exact ⟨_, t, around_accesses ks₁ ks₂ _, hrun, hunit, by simpa using hafter v (Ne.symm hne), hbytes⟩
  case readerWriter =>
    intro s u v c d tok o₁ n p₂ o₂ bs₂ hne hc hd hfc hfd
    have hu := s.unit_inFlight hc hfc
    have hv := s.unit_inFlight hd hfd
    refine ⟨fun choice => ?_, fun ms t got j k b hms hrun hgot _ _ ha hb =>
      reader_and_writer_race hu hv hms hrun hgot ha hb⟩
    obtain ⟨ks₁, ks₂, t, got, -, hrun, hunit, hafter, hbytes⟩ :=
      exists_order_of_reads hu (writesBeside_of_unit hne hv) choice
    exact ⟨_, t, got, around_accesses ks₁ ks₂ _, hrun, hunit, by simpa using hafter v (Ne.symm hne), hbytes⟩
  case writerHost =>
    intro s u c p o q bs hs host hc hf hhost
    have hu := s.unit_inFlight hc hf
    refine ⟨fun choice => ?_, fun ms hms => writer_and_host_race hu hhost hms⟩
    obtain ⟨ks₁, ks₂, t, hperm, hrun, hunit, -, hbytes⟩ := exists_order_of_writes hu (hhost.beside u) choice
    exact ⟨_, t, around_perm host hperm, hrun, hunit, hbytes⟩
  case readerHost =>
    intro s u c tok o n q hs host hc hf hhost
    have hu := s.unit_inFlight hc hf
    refine ⟨fun choice => ?_, fun ms hms => reader_and_host_race hu hhost hms⟩
    obtain ⟨ks₁, ks₂, t, got, hperm, hrun, hunit, -, hbytes⟩ := exists_order_of_reads hu (hhost.beside u) choice
    exact ⟨_, t, got, around_perm host hperm, hrun, hunit, hbytes⟩
  case hostRead =>
    intro s u c p o j bs b m hc hf hb hm
    have hu := s.unit_inFlight hc hf
    exact ⟨⟨_, runMoves_cons hm.run, rfl⟩, hostRead_after_write hu hb hm,
      fun ms => writer_and_hostRead_race hu hb hm⟩

end Sys2Proof.Machine

/-! SUPPORT. The command word field by field (spec/30_encoding.md R100 to R105): what each field decoder accepts
is what the field encoder writes, and the decoder is the encoder read backwards. -/

namespace Sys2Proof

/-! ### The fields of an encoded word (R100) -/

/-- A word is its five fields, RSVD the most significant. -/
theorem fields_append (w : CommandWord) :
    fieldRsvd w ++ fieldOrder w ++ fieldWcode w ++ fieldClass w ++ fieldOp w = w := by
  simp only [fieldRsvd, fieldOrder, fieldWcode, fieldClass, fieldOp,
    BitVec.extractLsb'_append_extractLsb'_eq_extractLsb', BitVec.extractLsb'_eq_self]

section
variable (op : Op) (tok : Token)

@[simp] theorem fieldOp_encodeFields : fieldOp (encodeFields op tok) = opField op := by
  rw [fieldOp, encodeFields, BitVec.extractLsb'_append_eq_of_add_le (by decide), BitVec.extractLsb'_eq_self]

@[simp] theorem fieldClass_encodeFields : fieldClass (encodeFields op tok) = tok.classField := by
  rw [fieldClass, encodeFields, BitVec.extractLsb'_append_eq_of_le (by decide),
    BitVec.extractLsb'_append_eq_of_add_le (by decide), BitVec.extractLsb'_eq_self]

@[simp] theorem fieldWcode_encodeFields : fieldWcode (encodeFields op tok) = tok.wcodeField := by
  rw [fieldWcode, encodeFields, BitVec.extractLsb'_append_eq_of_le (by decide),
    BitVec.extractLsb'_append_eq_of_le (by decide), BitVec.extractLsb'_append_eq_of_add_le (by decide),
    BitVec.extractLsb'_eq_self]

@[simp] theorem fieldOrder_encodeFields : fieldOrder (encodeFields op tok) = tok.orderBit := by
  rw [fieldOrder, encodeFields, BitVec.extractLsb'_append_eq_of_le (by decide),
    BitVec.extractLsb'_append_eq_of_le (by decide), BitVec.extractLsb'_append_eq_of_le (by decide),
    BitVec.extractLsb'_append_eq_of_add_le (by decide), BitVec.extractLsb'_eq_self]

@[simp] theorem fieldRsvd_encodeFields : fieldRsvd (encodeFields op tok) = 0 := by
  rw [fieldRsvd, encodeFields, BitVec.extractLsb'_append_eq_of_le (by decide),
    BitVec.extractLsb'_append_eq_of_le (by decide), BitVec.extractLsb'_append_eq_of_le (by decide),
    BitVec.extractLsb'_append_eq_of_le (by decide), BitVec.extractLsb'_eq_self]
  rfl

end

/-- Two words with the same fields are the same word. -/
theorem encodeFields_eq_iff (op : Op) (tok : Token) (w : CommandWord) :
    encodeFields op tok = w ↔ fieldRsvd w = 0 ∧ opField op = fieldOp w ∧ tok.classField = fieldClass w ∧
      tok.wcodeField = fieldWcode w ∧ tok.orderBit = fieldOrder w := by
  constructor
  · rintro rfl
    simp
  · rintro ⟨hrsvd, hop, hclass, hwcode, horder⟩
    rw [encodeFields, hop, hclass, hwcode, horder, ← (show fieldRsvd w = 0#23 from hrsvd), fields_append]

/-! ### One field at a time (R101 to R105) -/

theorem opOf_eq_iff (b : BitVec 2) (op : Op) : opOf b = op ↔ opField op = b := by
  cases op <;> revert b <;> decide

theorem orderOf_eq_iff (b : BitVec 1) (order : ByteOrder) : orderOf b = order ↔ orderField order = b := by
  cases order <;> revert b <;> decide

theorem intWidthOf_eq_ok_iff (b : BitVec 3) (w : IntWidth) : intWidthOf b = .ok w ↔ intWidthField w = b := by
  cases w <;> revert b <;> decide

theorem floatFormatOf_eq_ok_iff (b : BitVec 3) (f : FloatFormat) :
    floatFormatOf b = .ok f ↔ floatFormatField f = b := by
  cases f <;> revert b <;> decide

/-! ### The token of a word (R101, R103, R104) -/

theorem intTokenOf_eq_ok_iff (sg : Signedness) (wcode : BitVec 3) (order : BitVec 1) (tok : Token) :
    intTokenOf sg wcode order = .ok tok ↔ ∃ w ord, Token.int sg w ord = tok ∧ tok.wellFormed = true ∧
      intWidthField w = wcode ∧ orderField ord = order := by
  simp only [← intWidthOf_eq_ok_iff, ← orderOf_eq_iff, intTokenOf]
  constructor
  · intro h
    split at h
    · cases h
    · next w hw =>
      split at h
      · next hwf => cases h; exact ⟨w, _, rfl, hwf, hw, rfl⟩
      · cases h
  · rintro ⟨w, ord, rfl, hwf, hw, rfl⟩
    simp [hw, hwf]

theorem floatTokenOf_eq_ok_iff (wcode : BitVec 3) (order : BitVec 1) (tok : Token) :
    floatTokenOf wcode order = .ok tok ↔
      ∃ f ord, Token.float f ord = tok ∧ floatFormatField f = wcode ∧ orderField ord = order := by
  simp only [← floatFormatOf_eq_ok_iff, ← orderOf_eq_iff, floatTokenOf]
  constructor
  · intro h
    split at h
    · cases h
    · next f hf => cases h; exact ⟨f, _, rfl, hf, rfl⟩
  · rintro ⟨f, ord, rfl, hf, rfl⟩
    simp [hf]

theorem spanTokenOf_eq_ok_iff (t : Token) (wcode : BitVec 3) (order : BitVec 1) (tok : Token) :
    spanTokenOf t wcode order = .ok tok ↔ t = tok ∧ 0 = wcode ∧ 0 = order := by
  unfold spanTokenOf
  split
  · next hw => simp [eq_comm (a := 0#3), hw]
  · split
    · next ho => simp [eq_comm (a := 0#1), ho]
    · next hw ho => simp [not_not.mp hw, not_not.mp ho]

/-- The cases of CLASS (R101): `text` and `text'` are the two text classes that are out of scope. -/
theorem class_cases {motive : BitVec 3 → Prop} (uint : motive 0) (sint : motive 1) (float : motive 2)
    (span : motive 3) (spanCopy : motive 4) (ignore : motive 5) (text : motive 6) (text' : motive 7)
    (cls : BitVec 3) : motive cls := by
  have hcls : cls = 0 ∨ cls = 1 ∨ cls = 2 ∨ cls = 3 ∨ cls = 4 ∨ cls = 5 ∨ cls = 6 ∨ cls = 7 := by
    revert cls
    decide
  rcases hcls with rfl | rfl | rfl | rfl | rfl | rfl | rfl | rfl <;> assumption

/-- A token is selected by its own field values and by no others. -/
theorem tokenOf_eq_ok_iff (cls wcode : BitVec 3) (order : BitVec 1) (tok : Token) :
    tokenOf cls wcode order = .ok tok ↔
      tok.wellFormed = true ∧ tok.classField = cls ∧ tok.wcodeField = wcode ∧ tok.orderBit = order := by
  constructor
  · intro h
    cases cls using class_cases with
    | uint | sint =>
      obtain ⟨w, ord, rfl, hwf, hwcode, horder⟩ := (intTokenOf_eq_ok_iff _ wcode order tok).mp h
      exact ⟨hwf, rfl, hwcode, horder⟩
    | float =>
      obtain ⟨f, ord, rfl, hwcode, horder⟩ := (floatTokenOf_eq_ok_iff wcode order tok).mp h
      exact ⟨rfl, rfl, hwcode, horder⟩
    | span | spanCopy | ignore =>
      obtain ⟨rfl, hwcode, horder⟩ := (spanTokenOf_eq_ok_iff _ wcode order tok).mp h
      exact ⟨rfl, rfl, hwcode, horder⟩
    | text | text' => cases h
  · rintro ⟨hwf, rfl, hwcode, horder⟩
    cases tok with
    | int sg w ord =>
      cases sg <;> exact (intTokenOf_eq_ok_iff _ wcode order _).mpr ⟨w, ord, rfl, hwf, hwcode, horder⟩
    | float f ord => exact (floatTokenOf_eq_ok_iff wcode order _).mpr ⟨f, ord, rfl, hwcode, horder⟩
    | span | spanCopy | ignore => exact (spanTokenOf_eq_ok_iff _ wcode order _).mpr ⟨rfl, hwcode, horder⟩

/-! ### The instruction of an operation and a token (R105, R110) -/

theorem getInstr_eq_ok (tok : Token) (i : Instr) (h : getInstr tok = .ok i) : i.op = .get ∧ i.token = tok := by
  unfold getInstr at h
  split at h <;> cases h <;> exact ⟨rfl, rfl⟩

theorem putInstr_eq_ok (tok : Token) (i : Instr) (h : putInstr tok = .ok i) : i.op = .put ∧ i.token = tok := by
  unfold putInstr at h
  split at h <;> cases h <;> exact ⟨rfl, rfl⟩

theorem putfInstr_eq_ok (tok : Token) (i : Instr) (h : putfInstr tok = .ok i) :
    i.op = .putf ∧ i.token = tok := by
  unfold putfInstr at h
  split at h <;> cases h <;> exact ⟨rfl, rfl⟩

/-- An instruction is that of its own operation and token, and of no others. -/
theorem instrOf_eq_ok_iff (op : Op) (tok : Token) (i : Instr) :
    instrOf op tok = .ok i ↔ i.op = op ∧ i.token = tok := by
  constructor
  · intro h
    cases op with
    | get => exact getInstr_eq_ok tok i h
    | put => exact putInstr_eq_ok tok i h
    | putf => exact putfInstr_eq_ok tok i h
    | length => cases h; exact ⟨rfl, rfl⟩
  · rintro ⟨rfl, rfl⟩
    cases i <;> rfl

/-- An instruction is well formed where its token is of the catalogue (R103, R104). -/
theorem Instr.wellFormed_eq (i : Instr) : i.wellFormed = i.token.wellFormed := by cases i <;> rfl

/-! ### The decoder (R108) -/

theorem decode_of_rsvd_ne_zero (w : CommandWord) (h : fieldRsvd w ≠ 0) : decode w = .error .reservedBits :=
  if_pos h

theorem decode_of_rsvd_eq_zero (w : CommandWord) (h : fieldRsvd w = 0) :
    decode w = (tokenOf (fieldClass w) (fieldWcode w) (fieldOrder w)).bind (instrOf (opOf (fieldOp w))) := by
  refine (if_neg (not_not.mpr h)).trans ?_
  cases tokenOf (fieldClass w) (fieldWcode w) (fieldOrder w) <;> rfl

/-- What a word that decodes has in its fields. -/
theorem decode_eq_ok_iff (w : CommandWord) (i : Instr) :
    decode w = .ok i ↔ fieldRsvd w = 0 ∧ tokenOf (fieldClass w) (fieldWcode w) (fieldOrder w) = .ok i.token ∧
      opOf (fieldOp w) = i.op := by
  by_cases hrsvd : fieldRsvd w = 0
  · rw [decode_of_rsvd_eq_zero w hrsvd]
    cases tokenOf (fieldClass w) (fieldWcode w) (fieldOrder w) with
    | error e => simp [Except.bind]
    | ok tok =>
      simp only [Except.bind, instrOf_eq_ok_iff, Except.ok.injEq, hrsvd, true_and]
      exact ⟨fun ⟨hop, htok⟩ => ⟨htok.symm, hop.symm⟩, fun ⟨htok, hop⟩ => ⟨hop.symm, htok.symm⟩⟩
  · rw [decode_of_rsvd_ne_zero w hrsvd]
    exact ⟨nofun, fun h => absurd h.1 hrsvd⟩

/-- Settles O1: the fields of the word are those the encoder writes, one by one. -/
theorem decodeIffEncode : Obligations.DecodeIffEncode := by
  unfold Obligations.DecodeIffEncode
  intro w i
  rw [decode_eq_ok_iff, tokenOf_eq_ok_iff, opOf_eq_iff, encode, encodeFields_eq_iff, i.wellFormed_eq]
  tauto

end Sys2Proof

/-! SUPPORT. The illegal words (spec/30_encoding.md R107), the rows of the opcode table (R108, R111) and the token
lengths (R102), each read off the fields of the word. -/

namespace Sys2Proof

/-! ### Token lengths (R102) -/

/-- The fields of a word that decodes are those of its instruction's token. -/
theorem token_fields_of_decode {w : CommandWord} {i : Instr} (h : decode w = .ok i) :
    i.token.wellFormed = true ∧ i.token.classField = fieldClass w ∧ i.token.wcodeField = fieldWcode w ∧
      i.token.orderBit = fieldOrder w :=
  (tokenOf_eq_ok_iff _ _ _ _).mp ((decode_eq_ok_iff w i).mp h).2.1

/-- CLASS says whether a token takes its length from LEN, and WCODE what the length is otherwise. -/
theorem Token.length_of_fields (tok : Token) (len : Nat) :
    ((3 ≤ tok.classField.toNat ∧ tok.classField.toNat ≤ 5) → tok.length len = len ∧ tok.wcodeField = 0) ∧
    (tok.classField.toNat ≤ 2 → [1, 2, 3, 4, 8, 10][tok.wcodeField.toNat]? = some (tok.length len)) ∧
    tok.classField.toNat ≤ 5 := by
  cases tok with
  | int sg w order =>
    have hclass : (Token.int sg w order).classField.toNat ≤ 1 := by cases sg <;> simp [classField]
    exact ⟨fun h => by omega, fun _ => by cases w <;> rfl, by omega⟩
  | float f order =>
    have hclass : (Token.float f order).classField.toNat = 2 := rfl
    exact ⟨fun h => by omega, fun _ => by cases f <;> rfl, by omega⟩
  | span | spanCopy | ignore => exact ⟨fun _ => ⟨rfl, rfl⟩, fun h => absurd h (by decide), by decide⟩

/-- Settles O5: the word's fields are the token's. -/
theorem tokenLengths : Obligations.TokenLengths := by
  unfold Obligations.TokenLengths
  intro w i len h
  obtain ⟨-, hclass, hwcode, -⟩ := token_fields_of_decode h
  rw [← hclass, ← hwcode]
  exact i.token.length_of_fields len

/-! ### LEN, checked after the match (R108) -/

theorem Token.usesLen_iff (tok : Token) :
    tok.usesLen = true ↔ tok = .span ∨ tok = .spanCopy ∨ tok = .ignore := by
  cases tok <;> simp [Token.usesLen]

theorem Token.usesLen_iff_classField (tok : Token) :
    tok.usesLen = true ↔ tok.classField = 3 ∨ tok.classField = 4 ∨ tok.classField = 5 := by
  cases tok with
  | int sg w order => cases sg <;> simp [Token.usesLen, Token.classField]
  | float | span | spanCopy | ignore => simp [Token.usesLen, Token.classField]

theorem decodeCmd_of_error {w : CommandWord} {e : DecodeError} (h : decode w = .error e) (len : Nat) :
    decodeCmd w len = .error e := by simp [decodeCmd, h]

theorem decodeCmd_of_zeroLength {w : CommandWord} {i : Instr} (h : decode w = .ok i)
    (htok : i.token.usesLen = true) : decodeCmd w 0 = .error .zeroLength := by simp [decodeCmd, h, htok]

theorem decodeCmd_of_ok {w : CommandWord} {i : Instr} (h : decode w = .ok i) (len : Nat)
    (hlen : ¬(i.token.usesLen = true ∧ len = 0)) : decodeCmd w len = .ok i := by simpa [decodeCmd, h] using hlen

/-! ### The rows of the opcode table (R108, R111) -/

theorem Row.fixed_admits_iff (p w : CommandWord) : (Row.fixed p).admits w = true ↔ w = p := by
  have hmask : w &&& 0xFFFFFFFF#32 = w := BitVec.and_allOnes
  simp [Row.admits, Row.fixed, hmask]

/-- Two rows no word matches: where both masks are set, their patterns differ. -/
def Row.Apart (p q : Row) : Prop := p.pattern &&& q.mask ≠ q.pattern &&& p.mask

theorem Row.Apart.not_both {p q : Row} (h : p.Apart q) (w : CommandWord) :
    ¬(p.admits w = true ∧ q.admits w = true) := by
  rintro ⟨hp, hq⟩
  have hp : w &&& p.mask = p.pattern := by simpa [Row.admits] using hp
  have hq : w &&& q.mask = q.pattern := by simpa [Row.admits] using hq
  exact h (by rw [← hp, ← hq, BitVec.and_assoc, BitVec.and_assoc, BitVec.and_comm p.mask])

theorem opcodeRows_apart : opcodeRows.Pairwise Row.Apart := by
  unfold Row.Apart
  decide

theorem Instr.row_mem (i : Instr) : i.row ∈ opcodeRows := by
  cases i with
  | len tok => exact (Laws.RowInTable.len tok).1
  | _ => decide

/-- A word that decodes matches its instruction's row. -/
theorem row_admits_of_decode {w : CommandWord} {i : Instr} (h : decode w = .ok i) : i.row.admits w = true := by
  obtain ⟨hwf, rfl⟩ := (decodeIffEncode w i).mp h
  cases i with
  | len tok => exact (Laws.RowInTable.len tok).2 hwf
  | _ => exact (Row.fixed_admits_iff _ _).mpr rfl

/-- No word matches two rows of the table. -/
theorem opcodeRows_unique {p q : Row} (hp : p ∈ opcodeRows) (hq : q ∈ opcodeRows) (w : CommandWord)
    (hpw : p.admits w = true) (hqw : q.admits w = true) : p = q := by
  by_contra hne
  have : Std.Symm Row.Apart := ⟨fun _ _ h => Ne.symm h⟩
  exact (opcodeRows_apart.forall hp hq hne).not_both w ⟨hpw, hqw⟩

/-- Settles O3: the rows are apart, a legal word matches its instruction's, and LEN is looked at after that. -/
theorem opcodeRowsPartition : Obligations.OpcodeRowsPartition := by
  unfold Obligations.OpcodeRowsPartition
  refine ⟨by decide, opcodeRows_apart.imp Row.Apart.not_both, fun w len =>
    ⟨fun i h => ⟨⟨i.row_mem, row_admits_of_decode h, fun r hr hrw => ?unique⟩, ?zero, ?nonzero⟩,
      fun e h => decodeCmd_of_error h len⟩⟩
  case unique => exact opcodeRows_unique hr i.row_mem w hrw (row_admits_of_decode h)
  case zero =>
    rintro htok rfl
    exact decodeCmd_of_zeroLength h (i.token.usesLen_iff.mpr htok)
  case nonzero =>
    rw [← i.token.usesLen_iff]
    exact decodeCmd_of_ok h len

/-- Settles O4: each of the fifteen words is evaluated by the decoder. -/
theorem decodeSampleWords : Obligations.DecodeSampleWords := by
  unfold Obligations.DecodeSampleWords
  decide

/-! ### The illegal words (R107) -/

@[simp] theorem isOk_ok {α : Type} (a : α) : (.ok a : Except DecodeError α).isOk = true := rfl

@[simp] theorem isOk_error {α : Type} (e : DecodeError) : (.error e : Except DecodeError α).isOk = false := rfl

/-- A refusal is spoken of by `isOk`, which forgets its name. -/
theorem exists_error_iff {α : Type} (x : Except DecodeError α) : (∃ e, x = .error e) ↔ x.isOk = false := by
  cases x <;> simp

theorem intTokenOf_refuses_iff (sg : Signedness) (wcode : BitVec 3) (order : BitVec 1) :
    (intTokenOf sg wcode order).isOk = false ↔ 4 < wcode.toNat ∨ wcode = 0 ∧ order = 1 := by
  cases sg <;> revert wcode order <;> decide

theorem floatTokenOf_refuses_iff (wcode : BitVec 3) (order : BitVec 1) :
    (floatTokenOf wcode order).isOk = false ↔ wcode = 0 ∨ wcode = 2 ∨ wcode = 6 ∨ wcode = 7 := by
  revert wcode order
  decide

theorem spanTokenOf_refuses_iff (tok : Token) (wcode : BitVec 3) (order : BitVec 1) :
    (spanTokenOf tok wcode order).isOk = false ↔ wcode ≠ 0 ∨ order = 1 := by
  have horder : ¬order = 0 ↔ order = 1 := by revert order; decide
  unfold spanTokenOf
  split
  · next hw => simpa using .inl hw
  · next hw =>
    split
    · next ho => simpa using .inr (horder.mp ho)
    · next ho => simp [not_not.mp hw, not_not.mp ho]

/-- R107's conditions on CLASS, WCODE and ORDER. -/
def IllegalToken (cls wcode : BitVec 3) (order : BitVec 1) : Prop :=
  cls = 6 ∨ cls = 7 ∨ ((cls = 0 ∨ cls = 1) ∧ 4 < wcode.toNat) ∨
    (cls = 2 ∧ (wcode = 0 ∨ wcode = 2 ∨ wcode = 6 ∨ wcode = 7)) ∨
    ((cls = 0 ∨ cls = 1) ∧ wcode = 0 ∧ order = 1) ∨ ((cls = 3 ∨ cls = 4 ∨ cls = 5) ∧ (wcode ≠ 0 ∨ order = 1))

theorem tokenOf_refuses_iff (cls wcode : BitVec 3) (order : BitVec 1) :
    (tokenOf cls wcode order).isOk = false ↔ IllegalToken cls wcode order := by
  unfold IllegalToken
  cases cls using class_cases with
  | uint | sint => exact (intTokenOf_refuses_iff _ wcode order).trans (by simp)
  | float => exact (floatTokenOf_refuses_iff wcode order).trans (by simp)
  | span | spanCopy | ignore => exact (spanTokenOf_refuses_iff _ wcode order).trans (by simp)
  | text | text' => exact iff_of_true rfl (by simp)

theorem getInstr_isOk (tok : Token) (hwf : tok.wellFormed = true) : (getInstr tok).isOk = true := by
  unfold getInstr
  split <;> simp_all [Token.wellFormed]

theorem putInstr_isOk (tok : Token) (hwf : tok.wellFormed = true) : (putInstr tok).isOk = !tok.usesLen := by
  unfold putInstr
  split <;> simp_all [Token.wellFormed, Token.usesLen]

theorem putfInstr_isOk (tok : Token) (hwf : tok.wellFormed = true) : (putfInstr tok).isOk = !tok.usesLen := by
  unfold putfInstr
  split <;> simp_all [Token.wellFormed, Token.usesLen]

/-- An operation has no row for a token of the catalogue exactly where it would encode a span (R104). -/
theorem instrOf_refuses_iff (op : Op) (tok : Token) (hwf : tok.wellFormed = true) :
    (instrOf op tok).isOk = false ↔ tok.usesLen = true ∧ (op = .put ∨ op = .putf) := by
  cases op with
  | get => simp [instrOf, getInstr_isOk tok hwf]
  | put => simp [instrOf, putInstr_isOk tok hwf]
  | putf => simp [instrOf, putfInstr_isOk tok hwf]
  | length => simp [instrOf]

/-- The decoder refuses a word for RSVD, for the token fields, or for an encode of a span or ignore token. -/
theorem decode_refuses_iff (w : CommandWord) :
    (decode w).isOk = false ↔ fieldRsvd w ≠ 0 ∨
      IllegalToken (fieldClass w) (fieldWcode w) (fieldOrder w) ∨
      ((fieldClass w = 3 ∨ fieldClass w = 4 ∨ fieldClass w = 5) ∧ (fieldOp w = 1 ∨ fieldOp w = 2)) := by
  by_cases hrsvd : fieldRsvd w = 0
  · rw [decode_of_rsvd_eq_zero w hrsvd, ← tokenOf_refuses_iff]
    cases htok : tokenOf (fieldClass w) (fieldWcode w) (fieldOrder w) with
    | error e => simp [Except.bind]
    | ok tok =>
      obtain ⟨hwf, hclass, -, -⟩ := (tokenOf_eq_ok_iff _ _ _ _).mp htok
      have hput : opOf (fieldOp w) = .put ↔ fieldOp w = 1 := (opOf_eq_iff _ _).trans eq_comm
      have hputf : opOf (fieldOp w) = .putf ↔ fieldOp w = 2 := (opOf_eq_iff _ _).trans eq_comm
      rw [Except.bind, instrOf_refuses_iff _ tok hwf, tok.usesLen_iff_classField, hclass, hput, hputf]
      simp [show fieldRsvd w = 0#23 from hrsvd]
  · rw [decode_of_rsvd_ne_zero w hrsvd]
    exact iff_of_true rfl (.inl hrsvd)

/-- With LEN, a span or ignore token is refused for LEN = 0 too. -/
theorem decodeCmd_refuses_iff (w : CommandWord) (len : Nat) :
    (decodeCmd w len).isOk = false ↔ (decode w).isOk = false ∨
      ((fieldClass w = 3 ∨ fieldClass w = 4 ∨ fieldClass w = 5) ∧ len = 0) := by
  cases h : decode w with
  | error e =>
    rw [decodeCmd_of_error h]
    exact iff_of_true rfl (.inl rfl)
  | ok i =>
    rw [← (token_fields_of_decode h).2.1, ← i.token.usesLen_iff_classField]
    by_cases hlen : i.token.usesLen = true ∧ len = 0
    · obtain ⟨htok, rfl⟩ := hlen
      rw [decodeCmd_of_zeroLength h htok]
      exact iff_of_true rfl (.inr ⟨htok, rfl⟩)
    · rw [decodeCmd_of_ok h len hlen]
      exact iff_of_false nofun (fun h => h.elim nofun hlen)

namespace Machine

/-! ### The issue of an illegal word (R107, R341) -/

/-- A token that takes LEN has no encode. -/
theorem encodeBytes_of_usesLen (layout : Float80Layout) (tok : Token) (v : ValueWord) (h : tok.usesLen = true) :
    encodeBytes layout tok v = .error .illegalCommand := by
  cases tok with
  | int | float => cases h
  | span | spanCopy | ignore => rfl

/-- An instruction whose token takes LEN fails where LEN is 0. -/
theorem planOf_of_zeroLength (layout : Float80Layout) (i : Instr) (c : CodecUnit) (htok : i.token.usesLen = true)
    (hlen : c.len = 0) : planOf layout i c = .fail .illegalCommand := by
  unfold planOf
  cases i.op with
  | get => simp [getPlan, htok, hlen]
  | put => simp [putPlan, encodeBytes_of_usesLen layout i.token c.value htok]
  | putf => simp [putfPlan, encodeBytes_of_usesLen layout i.token c.value htok]
  | length => simp [lengthPlan, htok, hlen]

/-- What `decodeCmd` refuses is ILLEGAL_COMMAND: the word at decode, LEN = 0 in the command's own check. -/
theorem commandPlan_of_illegal (layout : Float80Layout) (c : CodecUnit) (e : DecodeError)
    (h : decodeCmd c.cmd c.len = .error e) : commandPlan layout c = .fail .illegalCommand := by
  cases hd : decode c.cmd with
  | error _ => simp [commandPlan, hd]
  | ok i =>
    have hlen : i.token.usesLen = true ∧ c.len = 0 := by
      by_contra hne
      rw [decodeCmd_of_ok hd _ hne] at h
      cases h
    simpa [commandPlan, hd] using planOf_of_zeroLength layout i c hlen.1 hlen.2

/-- An issue that fails leaves everything but the unit's response and FLUSH_ACK. -/
theorem frame_latch_fail (s : State) (u : Nat) (c : CodecUnit) (e : Status) :
    Frame u { s with active := u }
      ((s.latch u c).carryOut u { c with flushAck := false } (.fail e))
      { c with flushAck := false } ({ c with flushAck := false }.raise e) where
  params := rfl
  views := rfl
  sched := rfl
  active := rfl
  seen := rfl
  count := by simp [State.carryOut]
  others := fun v hv => by simp [State.carryOut, Ne.symm hv]
  cmd := rfl
  offset := rfl
  len := rfl
  value := rfl
  bufSize := rfl
  flushCb := rfl
  flushAck := rfl
  flushOff := rfl
  ctx := rfl
  flight := rfl

/-- Settles O2: R107's conditions one field at a time, and the plan of a refused word, which only raises. -/
theorem illegalCommands : Obligations.IllegalCommands := by
  unfold Obligations.IllegalCommands
  refine ⟨fun w len => ?_, fun s u c e hc hi hf he => ?_⟩
  · rw [exists_error_iff, decodeCmd_refuses_iff, decode_refuses_iff, IllegalToken]
    simp only [and_or_left, or_assoc]
  · have hplan := commandPlan_of_illegal s.params.layout { c with flushAck := false } e he
    have hissue := issue_of_unit u s c hc (c.notIssuable_none.mpr ⟨hi, hf⟩)
    rw [hplan] at hissue
    exact ⟨_, _, hissue, State.carryOut_unit _ u _ _ _ (State.setUnit_same s u _ c hc),
      ⟨rfl, rfl, rfl, rfl, rfl, rfl, rfl, rfl, rfl⟩, frame_latch_fail s u c _, fun _ => rfl⟩

end Machine

end Sys2Proof

/-! SUPPORT. TTC-1 assembly (spec/30_encoding.md R113, R114): a line is register writes and an issue, and a `buf`
line is MemWrite. -/

namespace Sys2Proof

/-- The operations of a token of the catalogue have a row, but for the encodes of span and ignore tokens. -/
theorem exists_instr (op : Op) (tok : Token) (hwf : tok.wellFormed = true)
    (hop : tok.usesLen = true → op = .get ∨ op = .length) :
    ∃ i, decode (encodeFields op tok) = .ok i ∧ i.op = op ∧ i.token = tok := by
  cases hi : instrOf op tok with
  | error e =>
    obtain ⟨huses, hput⟩ := (instrOf_refuses_iff op tok hwf).mp (by rw [hi]; rfl)
    rcases hop huses with rfl | rfl <;> simp at hput
  | ok i =>
    obtain ⟨rfl, rfl⟩ := (instrOf_eq_ok_iff op tok i).mp hi
    exact ⟨i, (decodeIffEncode _ i).mpr ⟨i.wellFormed_eq.trans hwf, rfl⟩, rfl, rfl⟩

theorem Token.wellFormed_of_usesLen (tok : Token) (h : tok.usesLen = true) : tok.wellFormed = true := by
  cases tok with
  | int | float => cases h
  | span | spanCopy | ignore => rfl

namespace Machine

/-! ### Register writes, then an issue (R113) -/

/-- The writes of a command line, in the order of its moves. -/
def AsmLine.writes : AsmLine → List RegWrite
  | .get tok o => [.cmd (encodeFields .get tok), .offset o]
  | .put tok o v => [.cmd (encodeFields .put tok), .offset o, .value v.word]
  | .putf tok o v nocb => [.cmd (encodeFields .putf tok), .offset o, .value v.word, .flushCb (!nocb)]
  | .len tok => [.cmd (encodeFields .length tok)]
  | .getN tok o n => [.cmd (encodeFields .get tok), .offset o, .len n]
  | .lenN tok n => [.cmd (encodeFields .length tok), .len n]
  | .buf _ _ => []

section
variable {line : AsmLine} {op : Op} {tok : Token}

theorem AsmLine.moves_eq (h : line.command? = some (op, tok)) (u : Nat) :
    line.moves u = line.writes.map (.writeReg u) ++ [.issue u] := by
  cases line with
  | buf => cases h
  | _ => rfl

theorem AsmLine.foldl_writes (h : line.command? = some (op, tok)) (c : CodecUnit) :
    line.writes.foldl CodecUnit.write c = { line.operands c with cmd := encodeFields op tok } := by
  cases line with
  | buf => cases h
  | _ => cases h; rfl

/-- The operands a line names are what its writes have to fit; the others are not written. -/
theorem AsmLine.writes_fit (p : Params) (c : CodecUnit) (hoffset : (line.operands c).offset < 2 ^ p.offsetBits)
    (hlen : (line.operands c).len < 2 ^ p.offsetBits) : ∀ w ∈ line.writes, w.fits p = true := by
  have hfits (v : Nat) := fitsRegister_eq_true p v
  cases line <;> simp_all [AsmLine.writes, AsmLine.operands, RegWrite.fits]

/-- A line's operation has a row for its token: spans and ignores are only got and measured. -/
theorem AsmLine.command_of_wellFormed (h : line.command? = some (op, tok)) (hwf : line.wellFormed = true) :
    tok.wellFormed = true ∧ (tok.usesLen = true → op = .get ∨ op = .length) := by
  cases line with
  | buf => cases h
  | get | put | putf | len =>
    cases h
    simp only [AsmLine.wellFormed, Bool.and_eq_true, Bool.not_eq_true'] at hwf
    simp [hwf]
  | getN | lenN =>
    cases h
    exact ⟨Token.wellFormed_of_usesLen _ hwf, by simp⟩

theorem AsmLine.operands_notIssuable (c : CodecUnit) (w : CommandWord) :
    { line.operands c with cmd := w }.notIssuable = c.notIssuable := by cases line <;> rfl

end

theorem CodecUnit.write_unitState (c : CodecUnit) (w : RegWrite) : (c.write w).unitState = c.unitState := by
  cases w <;> rfl

theorem State.latch_setUnit (s : State) (u : Nat) (c d : CodecUnit) :
    (s.setUnit u c).latch u d = s.latch u d := by simp [State.latch, State.setUnit]

/-- Writes of registers of an idle unit make one change of the unit, all of them together. -/
theorem runMoves_writes (ws : List RegWrite) (s : State) (u : Nat) (c : CodecUnit) (ms : List Move)
    (hc : s.units[u]? = some c) (hi : c.unitState = .idle) (hws : ∀ w ∈ ws, w.fits s.params = true) :
    runMoves (ws.map (.writeReg u) ++ ms) s = runMoves ms (s.setUnit u (ws.foldl CodecUnit.write c)) := by
  induction ws generalizing s c with
  | nil => rw [List.foldl_nil, s.setUnit_self u c hc]; rfl
  | cons w ws ih =>
    obtain ⟨hw, hws⟩ := List.forall_mem_cons.mp hws
    have hwrite : runMove (.writeReg u w) s = .next (s.setUnit u (c.write w)) :=
      hostWriteReg_of_allowed hc w hw (.inl hi)
    rw [List.map_cons, List.cons_append, runMoves_cons hwrite,
      ih _ _ (s.setUnit_same u _ c hc) ((c.write_unitState w).trans hi) hws,
      State.setUnit_setUnit, List.foldl_cons]

/-- The issue of a legal word is the execution of its instruction. -/
theorem issue_of_decode (s : State) (u : Nat) (c : CodecUnit) (i : Instr) (hc : s.units[u]? = some c)
    (hi : c.notIssuable = none) (hd : decode c.cmd = .ok i) : issue u s = exec i (s.latch u c) := by
  simp [issue, hc, hi, hd]

theorem runMoves_singleton (m : Move) (s : State) : runMoves [m] s = runMove m s := by
  unfold runMoves
  cases runMove m s <;> rfl

/-! ### The `buf` directive (R114) -/

/-- The moves of a `buf` line are host writes of its bytes, one for each. -/
theorem hostWrites_buf (o : Nat) (bs : List Byte) (s : State) (u : Nat)
    (hin : ∀ k, k < bs.length → s.inBuf (o + k) = true) : HostWrites s o bs ((AsmLine.buf o bs).moves u) := by
  refine ⟨by simp [AsmLine.moves], fun k b m hb hm => .inl ?_⟩
  have hk : k < bs.length := (List.getElem?_eq_some_iff.mp hb).1
  have hmove : Move.bufWrite (o + k) b = m := by
    simpa [AsmLine.moves, List.getElem?_range hk, hb] using hm
  exact ⟨hmove.symm, hin k hk⟩

/-- Settles O58: a command line writes its operands and then issues, and a `buf` line is MemWrite. -/
theorem assembledLines : Obligations.AssembledLines := by
  unfold Obligations.AssembledLines
  refine ⟨fun line op tok s u c hwf hcmd hc hi hf hoffset hlen => ?_, fun o bs s u hin => ?_⟩
  · obtain ⟨htok, hop⟩ := AsmLine.command_of_wellFormed hcmd hwf
    obtain ⟨i, hdecode, rfl, rfl⟩ := exists_instr op tok htok hop
    refine ⟨i, hdecode, rfl, rfl, ?_⟩
    let d : CodecUnit := { line.operands c with cmd := encodeFields i.op i.token }
    have hd : d.notIssuable = none :=
      (AsmLine.operands_notIssuable c _).trans (c.notIssuable_none.mpr ⟨hi, hf⟩)
    have hissue : runMove (.issue u) (s.setUnit u d) = exec i ((s.setUnit u d).latch u d) :=
      issue_of_decode _ u d i (s.setUnit_same u d c hc) hd hdecode
    rw [AsmLine.moves_eq hcmd, runMoves_writes _ s u c _ hc hi (AsmLine.writes_fit s.params c hoffset hlen),
      AsmLine.foldl_writes hcmd, runMoves_singleton, hissue, s.latch_setUnit]
  · exact ⟨_, (hostWrites_buf o bs s u hin).run, s.buf.getElem?_eq_read_writeBytes o bs,
      s.buf.read_writeBytes_outside o bs, rfl⟩

end Machine

end Sys2Proof

/-! SUPPORT. What one command leaves alone and what it answers (spec/40_contract.md R131, R132, R137): the frame of
every plan, and the outcome of a `get`, of an encode and of a LENGTH that pass their checks. -/

namespace Sys2Proof

namespace Machine

/-! ### The frame of a plan -/

/-- Whatever a plan does to its unit beside the response: only FLUSH_ACK, FLUSH_OFF and CTX can change. -/
theorem State.carryOut_frame (s : State) (u : Nat) (c : CodecUnit) (pl : Plan) :
    Frame u s (s.carryOut u c pl)
      { c with
        flushAck := (pl.unitAfter s c).flushAck, flushOff := (pl.unitAfter s c).flushOff,
        ctx := (pl.unitAfter s c).ctx }
      (pl.unitAfter s c) where
  params := s.carryOut_params u c pl
  views := s.carryOut_views u c pl
  sched := s.carryOut_sched u c pl
  active := s.carryOut_active u c pl
  seen := s.carryOut_seen u c pl
  count := by simp [State.carryOut_units]
  others := fun v hv => s.carryOut_other u v c pl hv
  cmd := by cases pl <;> rfl
  offset := by cases pl <;> rfl
  len := by cases pl <;> rfl
  value := by cases pl <;> rfl
  bufSize := by cases pl <;> rfl
  flushCb := by cases pl <;> rfl
  flushAck := rfl
  flushOff := rfl
  ctx := rfl
  flight := by cases pl <;> rfl

/-- The fields R132 lists, every other one absent. -/
theorem CodecUnit.answers_respond (c : CodecUnit) (r : Response) : (c.respond r).Answers .ok r :=
  ⟨rfl, rfl, rfl, rfl, rfl, rfl, rfl, rfl, rfl⟩

theorem CodecUnit.answers_raise (c : CodecUnit) (e : Status) : (c.raise e).Answers e noFields :=
  ⟨rfl, rfl, rfl, rfl, rfl, rfl, rfl, rfl, rfl⟩

section
variable {i : Instr} {s : State} {c : CodecUnit}

/-- Where an instruction decides on a plan, its execution is the carrying out of the plan. -/
theorem exec_of_plan {pl : Plan} (hc : s.units[s.active]? = some c) (hpl : planOf s.params.layout i c = pl) :
    exec i s = .next (s.carryOut s.active c pl) ∧
      (s.carryOut s.active c pl).units[s.active]? = some (pl.unitAfter s c) :=
  ⟨hpl ▸ exec_of_unit i s c hc, s.carryOut_unit _ c c pl hc⟩

/-! ### A `get` that reads its window (R131, R135) -/

theorem planOf_get_of_fits (layout : Float80Layout) (hi : i.op = .get) (hlen : i.token.usesLen = false)
    (hreads : i.token.readsWindow = true) (hfits : c.offset + i.token.length c.len ≤ c.bufSize) :
    planOf layout i c = .read i.token c.offset (i.token.length c.len) := by
  rw [planOf_get layout i c hi]
  obtain ⟨huses, -, -⟩ | ⟨-, ⟨hmiss, -⟩ | ⟨-, ⟨-, h⟩ | ⟨hno, -⟩⟩⟩ := getPlan_cases layout i.token c
  · simp [hlen] at huses
  · omega
  · exact h
  · simp [hreads] at hno

/-- A `get` of a token of fixed width that fits answers from the bytes of its window and changes nothing else. -/
theorem exec_get_of_fits {tok : Token} (hi : i.op = .get) (htok : i.token = tok) (hlen : tok.usesLen = false)
    (hreads : tok.readsWindow = true) (hc : s.units[s.active]? = some c)
    (hfits : c.offset + tok.length c.len ≤ c.bufSize) :
    ∃ t d, exec i s = .next t ∧ t.units[s.active]? = some d ∧ Frame s.active s t c d ∧ SameBuf s t ∧
      d.Answers .ok (getResponse s.params.layout tok c.offset (tok.length c.len)
        (s.buf.readBytes c.offset (tok.length c.len))) := by
  subst htok
  obtain ⟨hexec, hunit⟩ := exec_of_plan hc (planOf_get_of_fits s.params.layout hi hlen hreads hfits)
  exact ⟨_, _, hexec, hunit, s.carryOut_frame s.active c (.read ..), fun _ => rfl, c.answers_respond _⟩

/-! ### An encode that fits (R131, R138, R139) -/

theorem planOf_encode_of_fits {layout : Float80Layout} {bs : List Byte} (hi : i.op = .put ∨ i.op = .putf)
    (hbs : encodeBytes layout i.token c.value = .ok bs) (hfits : c.offset + bs.length ≤ c.bufSize) :
    planOf layout i c = .write c.offset c.offset bs := by
  have hlen := (encodeBytes_ok layout i.token c.value bs c.len hbs).2
  have hfits' : fits c.offset (i.token.length c.len) c.bufSize = true := by simpa [fits, ← hlen] using hfits
  rcases hi with hi | hi
  · simp [planOf, hi, putPlan, hbs, hfits']
  · simp [planOf, hi, putfPlan, hbs, hfits']

/-- DELTA of an encode at OFFSET is its length: NEXT less OFFSET (R138). -/
theorem encodeResponse_at_offset (o n : Nat) :
    encodeResponse o n o = { rtag := .noValue, next := some (o + n), delta := some n } := by
  simp [encodeResponse]

/-- A `put` or `putf` that fits writes its bytes in its window, answers, and changes nothing else. -/
theorem exec_encode_of_fits {tok : Token} {bs : List Byte} (hi : i.op = .put ∨ i.op = .putf) (htok : i.token = tok)
    (hc : s.units[s.active]? = some c) (hbs : encodeBytes s.params.layout tok c.value = .ok bs)
    (hfits : c.offset + bs.length ≤ c.bufSize) :
    ∃ t d, exec i s = .next t ∧ t.units[s.active]? = some d ∧ Frame s.active s t c d ∧
      d.Answers .ok
        { rtag := .noValue, next := some (c.offset + bs.length), delta := some bs.length } ∧
      (∀ k, k < bs.length → bs[k]? = some (t.buf.read (c.offset + k))) ∧
      SameBufOutside c.offset bs.length s t := by
  subst htok
  obtain ⟨hexec, hunit⟩ := exec_of_plan hc (planOf_encode_of_fits hi hbs hfits)
  refine ⟨_, _, hexec, hunit, s.carryOut_frame s.active c (.write ..), ?_,
    s.carryOut_write_window s.active c c.offset c.offset bs⟩
  rw [← encodeResponse_at_offset]
  exact c.answers_respond _

end

end Machine

end Sys2Proof

/-! SUPPORT. The integer and the float commands that fit (spec/41_integer.md R160 to R163; 42_float.md R263, R264):
what the bytes of a window spell, and the bytes of an encode. -/

namespace Sys2Proof

/-! ### What a window spells (R13) -/

theorem getElem?_split (order : ByteOrder) (w n k : Nat) (h : k < n) :
    (split order w n)[k]? = some (BitVec.ofNat 8 (w / 256 ^ Machine.bytePlace order n k)) := by
  cases order with
  | le => exact getElem?_splitLE w n k h
  | be => exact getElem?_splitBE w n k h

theorem assemble_eq_sum (order : ByteOrder) (bs : List Byte) :
    assemble order bs =
      ∑ k ∈ Finset.range bs.length, (bs.getD k 0).toNat * 256 ^ Machine.bytePlace order bs.length k := by
  cases order with
  | le => exact assembleLE_eq_sum bs
  | be => exact assembleBE_eq_sum bs

namespace Machine

/-- The bytes that stand in a window spell what `assemble` makes of them. -/
theorem windowValue_of_bytes (order : ByteOrder) (m : Memory) (o : Nat) (bs : List Byte)
    (h : ∀ k, k < bs.length → bs[k]? = some (m.read (o + k))) :
    windowValue order m o bs.length = assemble order bs := by
  rw [assemble_eq_sum, windowValue]
  refine Finset.sum_congr rfl fun k hk => ?_
  rw [List.getD_eq_getElem?_getD, h k (Finset.mem_range.mp hk), Option.getD_some]

theorem assemble_readBytes (order : ByteOrder) (m : Memory) (o n : Nat) :
    assemble order (m.readBytes o n) = windowValue order m o n := by
  have h := windowValue_of_bytes order m o (m.readBytes o n) fun k hk =>
    m.getElem?_readBytes o n k (by simpa using hk)
  rw [← h, Memory.length_readBytes]

/-! ### The integer gets (R161, R162) -/

/-- Settles O12: RESULT is the unsigned reading of the window. -/
theorem unsignedGetResult : Obligations.UnsignedGetResult := by
  unfold Obligations.UnsignedGetResult
  intro i s c w order hi htok hc hfits
  have h := exec_get_of_fits hi htok rfl rfl hc hfits
  have hresult : intResult (intDecode .unsigned order (s.buf.readBytes c.offset w.bytes)) =
      BitVec.ofNat 64 (windowValue order s.buf c.offset w.bytes) := by
    simp [intResult, intDecode, assemble_readBytes]
  simpa only [getResponse, Token.length, intTag, hresult] using h

/-- Settles O13: RESULT is the two's complement reading of the window. -/
theorem signedGetResult : Obligations.SignedGetResult := by
  unfold Obligations.SignedGetResult
  intro i s c w order hi htok hc hfits
  have h := exec_get_of_fits hi htok rfl rfl hc hfits
  simpa only [getResponse, Token.length, intTag, intResult, intDecode, assemble_readBytes,
    Memory.length_readBytes, ge_iff_le] using h

/-! ### The integer encodes (R163) -/

theorem encodeBytes_int_of_inRange (layout : Float80Layout) (sg : Signedness) (w : IntWidth) (order : ByteOrder)
    (v : ValueWord) (hlo : intLo sg w ≤ v.toInt) (hhi : v.toInt ≤ intHi sg w) :
    encodeBytes layout (.int sg w order) v =
      .ok (split order (v.toInt % 2 ^ (8 * w.bytes)).toNat w.bytes) :=
  if_neg (not_or.mpr ⟨not_lt.mpr hlo, not_lt.mpr hhi⟩)

/-- Byte `k` of an integer encode is the digit of the value that weighs what the byte does. -/
theorem getElem?_split_emod (order : ByteOrder) (v : Int) (n k : Nat) (h : k < n) :
    (split order (v % 2 ^ (8 * n)).toNat n)[k]? =
      some (BitVec.ofInt 8 (v % 2 ^ (8 * n) / 256 ^ bytePlace order n k)) := by
  have hnonneg : 0 ≤ v % 2 ^ (8 * n) := Int.emod_nonneg _ (by positivity)
  obtain ⟨x, hx⟩ := Int.eq_ofNat_of_zero_le hnonneg
  have hdigit : (x : Int) / 256 ^ bytePlace order n k = ((x / 256 ^ bytePlace order n k : Nat) : Int) := by
    push_cast; rfl
  rw [hx, hdigit, BitVec.ofInt_natCast, Int.toNat_natCast, getElem?_split order x n k h]

/-- Settles O15: the plan is a write of the value's digits, `put` and `putf` alike. -/
theorem integerPutResult : Obligations.IntegerPutResult := by
  unfold Obligations.IntegerPutResult
  intro i s c sg w order hi htok hc hlo hhi hfits
  have hbs := encodeBytes_int_of_inRange s.params.layout sg w order c.value hlo hhi
  obtain ⟨t, d, hexec, hunit, hframe, hanswers, hwindow, houtside⟩ :=
    exec_encode_of_fits hi htok hc hbs (by simpa using hfits)
  rw [length_split] at hanswers hwindow houtside
  refine ⟨t, d, hexec, hunit, hframe, hanswers, fun k hk => ?_, houtside⟩
  exact Option.some_inj.mp ((hwindow k hk).symm.trans (getElem?_split_emod order _ _ k hk))

/-! ### The float gets (R264) -/

/-- Settles O25: RESULT is the decode of the pattern the window spells. -/
theorem floatGetResult : Obligations.FloatGetResult := by
  unfold Obligations.FloatGetResult
  intro i s c f order hi htok hc hfits
  have h := exec_get_of_fits hi htok rfl rfl hc hfits
  simpa only [getResponse, Token.length, assemble_readBytes] using h

/-! ### The pattern of an encoded float fits its width (R253, R258, R263) -/

/-- What is below 2^a stays below 2^b, or comes to it, once scaled by 2^k and rounded, where a + k is at most b. -/
theorem rne_le {m a b : Nat} {k : Int} (hm : m < 2 ^ a) (hk : a + k ≤ b) : rne m k ≤ 2 ^ b := by
  unfold rne
  split
  · next hpos =>
    calc
      m * 2 ^ k.toNat ≤ 2 ^ a * 2 ^ k.toNat := Nat.mul_le_mul_right _ hm.le
      _ = 2 ^ (a + k.toNat) := (pow_add ..).symm
      _ ≤ 2 ^ b := Nat.pow_le_pow_right (by decide) (by omega)
  · next hneg =>
    have hlt : m < 2 ^ b * 2 ^ (-k).toNat :=
      calc
        m < 2 ^ a := hm
        _ ≤ 2 ^ (b + (-k).toNat) := Nat.pow_le_pow_right (by decide) (by omega)
        _ = 2 ^ b * 2 ^ (-k).toNat := pow_add ..
    have hq : m / 2 ^ (-k).toNat < 2 ^ b := Nat.div_lt_of_lt_mul (by rwa [mul_comm])
    dsimp only
    split_ifs <;> omega

/-- A rounded result lies in the format: its exponent is at most EMAX and its significand has P bits. -/
theorem roundFmt_bounds {F : BinaryFormat} {neg neg' : Bool} {m m' : Nat} {q e : Int}
    (h : roundFmt F neg m q = .fin neg' e m') : e ≤ F.emax ∧ m' < 2 ^ F.precision := by
  unfold roundFmt at h
  extract_lets e₁ m₁ carry m₂ e₂ at h
  have hround : m₁ ≤ 2 ^ F.precision :=
    rne_le Nat.lt_log2_self (by rw [BinaryFormat.precision]; push_cast; omega)
  have hm₂ : m₂ < 2 ^ F.precision := by
    by_cases hcarry : m₁ = 2 ^ F.precision
    · have hlead : 2 ^ F.fracBits < 2 ^ F.precision :=
        Nat.pow_lt_pow_right (by decide) (Nat.lt_succ_self F.fracBits)
      simpa [m₂, carry, hcarry] using hlead
    · simpa [m₂, carry, hcarry] using lt_of_le_of_ne hround hcarry
  split_ifs at h with hover
  obtain ⟨-, rfl, rfl⟩ := Rounded.fin.inj h
  exact ⟨not_lt.mp hover, hm₂⟩

theorem BinaryFormat.fields_lt (F : BinaryFormat) (neg : Bool) {e f : Nat} (he : e < 2 ^ F.expBits)
    (hf : f < 2 ^ F.fracBits) : F.fields neg e f < 2 ^ (F.expBits + F.fracBits + 1) := by
  have hmag : (e + 1) * 2 ^ F.fracBits ≤ 2 ^ (F.expBits + F.fracBits) :=
    pow_add 2 F.expBits F.fracBits ▸ Nat.mul_le_mul_right _ he
  rw [add_one_mul] at hmag
  rw [BinaryFormat.fields, pow_succ]
  cases neg <;> simp <;> omega

/-- A packed rounding fits the format, where the greatest biased exponent is below the field of all ones. -/
theorem pack_roundFmt_lt (F : BinaryFormat) (hbias : 2 * F.bias < 2 ^ F.expBits) (neg : Bool) (m : Nat)
    (q : Int) : pack F (roundFmt F neg m q) < 2 ^ (F.expBits + F.fracBits + 1) := by
  have hexp : 0 < 2 ^ F.expBits := Nat.two_pow_pos _
  have hfrac : 0 < 2 ^ F.fracBits := Nat.two_pow_pos _
  cases hr : roundFmt F neg m q with
  | zero neg' => exact F.fields_lt neg' hexp hfrac
  | inf neg' => exact F.fields_lt neg' (by rw [BinaryFormat.maxExp]; omega) hfrac
  | fin neg' e m' =>
    obtain ⟨he, hm⟩ := roundFmt_bounds hr
    rw [BinaryFormat.emax] at he
    rw [BinaryFormat.precision, pow_succ] at hm
    rw [pack]
    split
    · exact F.fields_lt neg' (by omega) (by omega)
    · exact F.fields_lt neg' hexp (by omega)

theorem packClass_lt (F : BinaryFormat) (hbias : 2 * F.bias < 2 ^ F.expBits) (hfrac : 0 < F.fracBits)
    (cl : FloatClass) : packClass F cl < 2 ^ (F.expBits + F.fracBits + 1) := by
  have hexp : 0 < 2 ^ F.expBits := Nat.two_pow_pos _
  have hmax : F.maxExp < 2 ^ F.expBits := by rw [BinaryFormat.maxExp]; omega
  cases cl with
  | nan => exact F.fields_lt false hmax (Nat.pow_lt_pow_right (by decide) (by omega))
  | inf neg => exact F.fields_lt neg hmax (Nat.two_pow_pos _)
  | zero neg => exact F.fields_lt neg hexp (Nat.two_pow_pos _)
  | fin neg m q => exact pack_roundFmt_lt F hbias neg m q

theorem fields80_lt (neg : Bool) {e m : Nat} (he : e < 2 ^ 15) (hm : m < 2 ^ 64) :
    fields80 neg e m < 2 ^ 80 := by
  rw [fields80]
  cases neg <;> simp <;> omega

/-- A finite pattern has a significand of P bits, and its power of two is bounded by the exponent field. -/
theorem unpackBin_bounds {F : BinaryFormat} {x : Nat} {neg : Bool} {m : Nat} {q : Int}
    (h : unpackBin F x = .fin neg m q) :
    m < 2 ^ F.precision ∧ q ≤ 2 ^ F.expBits - F.bias - F.fracBits := by
  have hf : x % 2 ^ F.fracBits < 2 ^ F.fracBits := Nat.mod_lt _ (Nat.two_pow_pos _)
  have he : ((x / 2 ^ F.fracBits % 2 ^ F.expBits : Nat) : Int) < 2 ^ F.expBits := by
    exact_mod_cast Nat.mod_lt _ (Nat.two_pow_pos _)
  unfold unpackBin at h
  rw [BinaryFormat.precision, pow_succ]
  dsimp only at h
  split_ifs at h <;> cases h
  · exact ⟨by omega, by rw [BinaryFormat.emin]; omega⟩
  · exact ⟨by omega, by omega⟩

/-- A finite double has at most 53 significant bits and a magnitude far below Float80's largest (R251). -/
theorem doubleClass_bounds {d : Word64} {neg : Bool} {m : Nat} {q : Int}
    (h : doubleClass d = .fin neg m q) : m.log2 < 53 ∧ q ≤ 973 := by
  obtain ⟨hm, hq⟩ := unpackBin_bounds h
  refine ⟨?_, hq.trans (by norm_num [binary64])⟩
  by_cases hzero : m = 0
  · simp [hzero]
  · exact (Nat.log2_lt hzero).mpr hm

/-- A significand moved up so that its leading bit is bit `n` has n + 1 bits. -/
theorem mul_two_pow_sub_log2_lt (m n : Nat) (h : m.log2 ≤ n) : m * 2 ^ (n - m.log2) < 2 ^ (n + 1) :=
  calc
    m * 2 ^ (n - m.log2) < 2 ^ (m.log2 + 1) * 2 ^ (n - m.log2) :=
      Nat.mul_lt_mul_of_pos_right Nat.lt_log2_self (Nat.two_pow_pos _)
    _ = 2 ^ (n + 1) := by rw [← pow_add]; congr 1; omega

theorem enc80_doubleClass_lt (layout : Float80Layout) (d : Word64) : enc80 layout (doubleClass d) < 2 ^ 80 := by
  cases hcl : doubleClass d with
  | nan => cases layout <;> exact fields80_lt _ (by decide) (by decide)
  | inf neg => cases layout <;> exact fields80_lt _ (by decide) (by decide)
  | zero neg => cases layout <;> exact fields80_lt _ (by decide) (by decide)
  | fin neg m q =>
    obtain ⟨hm, hq⟩ := doubleClass_bounds hcl
    have hexp : ((m.log2 : Int) + q + 16383).toNat < 2 ^ 15 := by omega
    cases layout with
    | x87 => exact fields80_lt _ hexp (mul_two_pow_sub_log2_lt m 63 (by omega))
    | implicit =>
      have hsig := mul_two_pow_sub_log2_lt m 64 (by omega)
      exact fields80_lt _ hexp (by omega)

/-- The pattern of every encode is one of the format's n bytes. -/
theorem floatEncode_lt (layout : Float80Layout) (f : FloatFormat) (d : Word64) :
    floatEncode layout f d < 2 ^ (8 * f.bytes) := by
  cases f with
  | f16 => exact packClass_lt binary16 (by decide) (by decide) _
  | f32 => exact packClass_lt binary32 (by decide) (by decide) _
  | f64 => exact d.isLt
  | f80 => exact enc80_doubleClass_lt layout d

/-! ### The float encodes (R263) -/

/-- Settles O26: the plan is a write of the pattern's bytes, and the window spells the pattern again. -/
theorem floatPutResult : Obligations.FloatPutResult := by
  unfold Obligations.FloatPutResult
  intro i s c f order hi htok hc hfits
  have hbs : encodeBytes s.params.layout (.float f order) c.value =
      .ok (split order (floatEncode s.params.layout f (doubleOperand c.value)) f.bytes) := rfl
  obtain ⟨t, d, hexec, hunit, hframe, hanswers, hwindow, houtside⟩ :=
    exec_encode_of_fits hi htok hc hbs (by simpa using hfits)
  have hspells := windowValue_of_bytes order t.buf c.offset _ hwindow
  rw [assemble_split order _ _ (floatEncode_lt _ f _), length_split] at hspells
  rw [length_split] at hanswers houtside
  exact ⟨t, d, hexec, hunit, hframe, hanswers, hspells, houtside⟩

end Machine

end Sys2Proof

/-! SUPPORT. The LENGTH command, the length of a token for its four operations, and what the outcome of a command
depends on (spec/40_contract.md R136, R145, R146). -/

namespace Sys2Proof

/-- Every legal token has its LENGTH word (R111, R145). -/
theorem decode_encode_len (tok : Token) (h : tok.wellFormed = true) :
    decode (encode (.len tok)) = .ok (.len tok) := (decodeIffEncode _ _).mpr ⟨h, rfl⟩

/-- A legal token is at least one byte long, where LEN is not 0. -/
theorem Token.length_pos (tok : Token) (len : Nat) (h : tok.usesLen = true → len ≠ 0) : 1 ≤ tok.length len := by
  cases tok with
  | int sg w order => cases w <;> simp [length, IntWidth.bytes]
  | float f order => cases f <;> simp [length, FloatFormat.bytes]
  | span | spanCopy | ignore => exact Nat.one_le_iff_ne_zero.mpr (h rfl)

/-- A span or ignore token is LEN bytes long. -/
theorem Token.length_of_usesLen (tok : Token) (len : Nat) (h : tok.usesLen = true) : tok.length len = len := by
  cases tok with
  | int | float => cases h
  | span | spanCopy | ignore => rfl

namespace Machine

section
variable {s : State} {c : CodecUnit}

/-! ### The LENGTH command (R145) -/

theorem planOf_len_of_legal (layout : Float80Layout) (tok : Token) (hwf : tok.wellFormed = true)
    (hlen : tok.usesLen = true → c.len ≠ 0) :
    planOf layout (.len tok) c = .now { rtag := .length, rlen := some (tok.length c.len) } := by
  obtain ⟨-, -, h⟩ | ⟨hillegal | ⟨huses, hzero⟩, -⟩ := lengthPlan_cases tok c
  · exact h
  · simp [hwf] at hillegal
  · exact absurd hzero (hlen huses)

theorem planOf_len_of_illegal (layout : Float80Layout) (tok : Token)
    (h : tok.wellFormed = false ∨ tok.usesLen = true ∧ c.len = 0) :
    planOf layout (.len tok) c = .fail .illegalCommand := by
  obtain ⟨hwf, hlen, -⟩ | ⟨-, hplan⟩ := lengthPlan_cases tok c
  · rcases h with hwf' | ⟨huses, hzero⟩
    · simp [hwf] at hwf'
    · exact absurd hzero (hlen huses)
  · exact hplan

/-- Whatever the token, LENGTH leaves BUF. -/
theorem planOf_len_readsOnly (layout : Float80Layout) (tok : Token) (c : CodecUnit) :
    (planOf layout (.len tok) c).ReadsOnly := by
  change (lengthPlan tok c).ReadsOnly
  obtain ⟨-, -, h⟩ | ⟨-, h⟩ := lengthPlan_cases tok c <;> rw [h] <;> trivial

/-- Settles O32: a LENGTH raises where the token or LEN is illegal, and else answers the token's length. -/
theorem lengthCommand : Obligations.LengthCommand := by
  unfold Obligations.LengthCommand
  refine ⟨fun tok hwf => ?_, rfl, fun tok s c hc => ?_⟩
  · have hdecode := decode_encode_len tok hwf
    exact ⟨row_admits_of_decode hdecode, hdecode⟩
  · obtain ⟨pl, hpl⟩ : ∃ pl, planOf s.params.layout (.len tok) c = pl := ⟨_, rfl⟩
    have hreads : pl.ReadsOnly := hpl ▸ planOf_len_readsOnly s.params.layout tok c
    obtain ⟨hexec, hunit⟩ := exec_of_plan hc hpl
    have hframe := s.carryOut_frame s.active c pl
    have hlegal (hwf : tok.wellFormed = true) (hlen : tok.usesLen = true → c.len ≠ 0) :
        Frame s.active s (s.carryOut s.active c pl) c (pl.unitAfter s c) ∧
          (pl.unitAfter s c).Answers .ok { rtag := .length, rlen := some (tok.length c.len) } := by
      obtain rfl := hpl.symm.trans (planOf_len_of_legal s.params.layout tok hwf hlen)
      exact ⟨hframe, c.answers_respond _⟩
    refine ⟨_, _, hexec, hunit, fun a => by rw [State.carryOut_buf, hreads.bufAfter], fun hill => ?illegal,
      fun sg w order htok hwf => ?int, fun f order htok => ?float, fun htok hlen => ?counted⟩
    case illegal =>
      rw [← Token.usesLen_iff] at hill
      obtain rfl := hpl.symm.trans (planOf_len_of_illegal s.params.layout tok hill)
      exact ⟨c.answers_raise _, hframe⟩
    case int => subst htok; exact hlegal hwf nofun
    case float => subst htok; exact hlegal rfl nofun
    case counted =>
      have huses := tok.usesLen_iff.mpr htok
      rw [← tok.length_of_usesLen c.len huses]
      exact hlegal (tok.wellFormed_of_usesLen huses) fun _ => hlen

end

/-! ### What a command can decide (R131) -/

/-- The plans an instruction can come to on a unit, with the window each of them names. -/
inductive Plan.Decided (layout : Float80Layout) (i : Instr) (c : CodecUnit) : Plan → Prop
  | fail (e : Status) (he : e ≠ .ok) : Decided layout i c (.fail e)
  | measured (hi : i.op = .length) :
    Decided layout i c (.now { rtag := .length, rlen := some (i.token.length c.len) })
  | skipped : Decided layout i c (.now (getResponse layout i.token c.offset (i.token.length c.len) []))
  | read : Decided layout i c (.read i.token c.offset (i.token.length c.len))
  | write (bs : List Byte) (hlen : bs.length = i.token.length c.len) :
    Decided layout i c (.write c.offset c.offset bs)
  | flush (k : FlushContext) (hlen : k.bytes.length = i.token.length c.len) : Decided layout i c (.flush k)

theorem planOf_decided (layout : Float80Layout) (i : Instr) (c : CodecUnit) :
    Plan.Decided layout i c (planOf layout i c) := by
  cases hi : i.op <;> simp only [planOf, hi]
  case get =>
    obtain ⟨-, -, h⟩ | ⟨-, ⟨-, h⟩ | ⟨-, ⟨-, h⟩ | ⟨-, h⟩⟩⟩ := getPlan_cases layout i.token c <;> rw [h]
    · exact .fail _ nofun
    · exact .fail _ nofun
    · exact .read
    · exact .skipped
  case put =>
    obtain ⟨e, he, h⟩ | ⟨bs, -, hlen, ⟨-, h⟩ | ⟨-, h⟩⟩ := putPlan_cases layout i.token c <;> rw [h]
    · exact .fail e (encodeBytes_error_ne_ok he)
    · exact .write bs hlen
    · exact .fail _ nofun
  case putf =>
    obtain ⟨e, he, h⟩ | ⟨bs, -, hlen, ⟨-, h⟩ | ⟨-, -, h⟩ | ⟨-, -, h⟩⟩ := putfPlan_cases layout i.token c <;>
      rw [h]
    · exact .fail e (encodeBytes_error_ne_ok he)
    · exact .write bs hlen
    · exact .flush _ hlen
    · exact .fail _ nofun
  case length =>
    obtain ⟨-, -, h⟩ | ⟨-, h⟩ := lengthPlan_cases i.token c <;> rw [h]
    · exact .measured hi
    · exact .fail _ nofun

/-! ### The same length for every operation (R136) -/

/-- What a command whose token is `n` bytes long leaves, OFFSET being `o`: the cursor moved by `n`, a flush that
holds `n` bytes, or an error. -/
def CodecUnit.MovesBy (o n : Nat) (d : CodecUnit) : Prop :=
  (d.unitState = .idle → d.status = .ok → d.next = some (o + n) ∧ d.delta = some n) ∧
  (d.unitState = .flushWait → ∃ k, d.ctx = some k ∧ k.bytes.length = n) ∧
  (d.unitState = .idle → d.status = .ok ∨ d.next = none)

theorem CodecUnit.movesBy_respond (c : CodecUnit) {r : Response} {o n : Nat}
    (h : r.next = some (o + n) ∧ r.delta = some n) : (c.respond r).MovesBy o n :=
  ⟨fun _ _ => h, nofun, fun _ => .inl rfl⟩

theorem getResponse_next_delta (layout : Float80Layout) (tok : Token) (o n : Nat) (bs : List Byte) :
    (getResponse layout tok o n bs).next = some (o + n) ∧ (getResponse layout tok o n bs).delta = some n := by
  cases tok <;> exact ⟨rfl, rfl⟩

/-- A `get`, `put` or `putf` moves by its token's length. -/
theorem Plan.Decided.movesBy {layout : Float80Layout} {i : Instr} {c : CodecUnit} {pl : Plan}
    (h : pl.Decided layout i c) (hi : i.op ≠ .length) (s : State) :
    (pl.unitAfter s c).MovesBy c.offset (i.token.length c.len) := by
  cases h with
  | fail e he => exact ⟨fun _ hok => absurd hok he, nofun, fun _ => .inr rfl⟩
  | measured hlength => exact absurd hlength hi
  | skipped => exact c.movesBy_respond (getResponse_next_delta ..)
  | read => exact c.movesBy_respond (getResponse_next_delta ..)
  | write bs hlen => exact c.movesBy_respond (by simp [encodeResponse_at_offset, hlen])
  | flush k hlen => exact ⟨nofun, fun _ => ⟨k, rfl, hlen⟩, nofun⟩

/-- Settles O43: LENGTH answers `tok.length c.len`, and every other operation moves by it. -/
theorem lengthConsistent : Obligations.LengthConsistent := by
  unfold Obligations.LengthConsistent
  intro tok s c hc hwf hlen
  rw [← Token.usesLen_iff] at hlen
  obtain ⟨hexec, hunit⟩ := exec_of_plan hc (planOf_len_of_legal s.params.layout tok hwf hlen)
  refine ⟨_, _, tok.length c.len, hexec, hunit, rfl, tok.length_pos c.len hlen, ?_⟩
  rintro i t d rfl hi hnext hd
  obtain ⟨hexec, hunit⟩ := exec_of_plan (i := i) hc rfl
  obtain rfl := Host.Outcome.next.inj (hexec.symm.trans hnext)
  obtain rfl := Option.some_inj.mp (hunit.symm.trans hd)
  exact (planOf_decided s.params.layout i c).movesBy hi s

/-! ### What the outcome of a command depends on (R146) -/

/-- A plan is made from the request registers alone. -/
theorem planOf_congr (layout : Float80Layout) (i : Instr) {c₁ c₂ : CodecUnit} (h : c₁.SameRequest c₂) :
    planOf layout i c₁ = planOf layout i c₂ := by
  obtain ⟨-, hoffset, hlen, hvalue, hbufSize, hflushCb⟩ := h
  simp only [planOf, getPlan, putPlan, putfPlan, lengthPlan, hoffset, hlen, hvalue, hbufSize, hflushCb]

/-- Two units show the same outcome: both wait with the same flush pending, or both show the same response. -/
def CodecUnit.SameOutcome (d₁ d₂ : CodecUnit) : Prop :=
  d₁.unitState = d₂.unitState ∧
  (d₁.unitState = .idle → d₁.status = d₂.status ∧ d₁.response? = d₂.response?) ∧
  (d₁.unitState = .flushWait → d₁.ctx = d₂.ctx)

/-- What a plan makes of two units is the same outcome, where the bytes it reads are the same. -/
theorem Plan.unitAfter_sameOutcome (pl : Plan) {s₁ s₂ : State} (c₁ c₂ : CodecUnit)
    (hlayout : s₁.params.layout = s₂.params.layout)
    (hread : ∀ tok o n, pl = .read tok o n → s₁.buf.readBytes o n = s₂.buf.readBytes o n) :
    (pl.unitAfter s₁ c₁).SameOutcome (pl.unitAfter s₂ c₂) := by
  cases pl with
  | fail e => exact ⟨rfl, fun _ => ⟨rfl, rfl⟩, nofun⟩
  | now r => exact ⟨rfl, fun _ => ⟨rfl, rfl⟩, nofun⟩
  | read tok o n =>
    rw [unitAfter, unitAfter, hlayout, hread tok o n rfl]
    exact ⟨rfl, fun _ => ⟨rfl, rfl⟩, nofun⟩
  | write base o bs => exact ⟨rfl, fun _ => ⟨rfl, rfl⟩, nofun⟩
  | flush k => exact ⟨rfl, nofun, fun _ => rfl⟩

section
variable {layout : Float80Layout} {i : Instr} {c : CodecUnit} {pl : Plan}

/-- The bytes a command reads are those of its window. -/
theorem Plan.Decided.readBytes_congr (h : pl.Decided layout i c) {m₁ m₂ : Memory}
    (hm : ∀ a, c.offset ≤ a → a < c.offset + i.token.length c.len → m₁.read a = m₂.read a) (tok : Token)
    (o n : Nat) (hpl : pl = .read tok o n) : m₁.readBytes o n = m₂.readBytes o n := by
  subst hpl
  cases h
  exact m₁.readBytes_congr m₂ _ _ fun k hk => hm _ (by omega) (by omega)

/-- A command leaves the same bytes in its window, where the window held the same. -/
theorem Plan.Decided.bufAfter_window (h : pl.Decided layout i c) {m₁ m₂ : Memory} {a : Nat}
    (hlo : c.offset ≤ a) (hhi : a < c.offset + i.token.length c.len) (hm : m₁.read a = m₂.read a) :
    (pl.bufAfter m₁).read a = (pl.bufAfter m₂).read a := by
  cases h with
  | write bs hlen =>
    obtain ⟨k, rfl⟩ := Nat.exists_eq_add_of_le hlo
    have hwritten (m : Memory) := m.getElem?_eq_read_writeBytes c.offset bs k (by omega)
    exact Option.some_inj.mp ((hwritten m₁).symm.trans (hwritten m₂))
  | fail | measured | skipped | read | flush => exact hm

/-- A command leaves every byte outside its window. -/
theorem Plan.Decided.bufAfter_outside (h : pl.Decided layout i c) (m : Memory) {a : Nat}
    (ha : a < c.offset ∨ c.offset + i.token.length c.len ≤ a) : (pl.bufAfter m).read a = m.read a := by
  cases h with
  | write bs hlen => exact m.read_writeBytes_outside c.offset bs a (hlen ▸ ha)
  | fail | measured | skipped | read | flush => rfl

end

theorem resume_of_resumable (s : State) (u : Nat) (c : CodecUnit) (k : FlushContext) (hc : s.units[u]? = some c)
    (hk : c.ctx = some k) (hr : c.resumable = true) :
    resume u s = .next (s.carryOut u c.leaveFlush (flushPlan k)) := by
  obtain ⟨hwait, hack⟩ : c.unitState = .flushWait ∧ c.flushAck = true := by simpa [CodecUnit.resumable] using hr
  exact resume_of_acknowledged s u c k hc hwait hk hack

/-- The answer of step 2 of a flush is the context's alone. -/
theorem flushPlan_answer_congr (k : FlushContext) (s₁ s₂ : State) (c₁ c₂ : CodecUnit) :
    ((flushPlan k).unitAfter s₁ c₁).status = ((flushPlan k).unitAfter s₂ c₂).status ∧
    ((flushPlan k).unitAfter s₁ c₁).response? = ((flushPlan k).unitAfter s₂ c₂).response? := by
  obtain ⟨-, h⟩ | ⟨-, h⟩ := flushPlan_cases k <;> rw [h] <;> exact ⟨rfl, rfl⟩

/-- Where step 2 of a flush succeeds, it writes the bytes the context holds, whatever BUF held. -/
theorem flushPlan_bytes_of_ok (k : FlushContext) (s : State) (c : CodecUnit) (m : Memory) {a : Nat}
    (hok : ((flushPlan k).unitAfter s c).status = .ok) (ha : a < k.bytes.length) :
    k.bytes[a]? = some (((flushPlan k).bufAfter m).read a) := by
  obtain ⟨-, h⟩ | ⟨-, h⟩ := flushPlan_cases k <;> rw [h] at hok ⊢
  · simpa [Plan.bufAfter] using m.getElem?_eq_read_writeBytes 0 k.bytes a ha
  · cases hok

/-- Settles O46: the plans of the two commands are one plan, and it looks at nothing but its window. -/
theorem statelessness : Obligations.Statelessness := by
  unfold Obligations.Statelessness
  refine ⟨fun i s₁ s₂ c₁ c₂ hlayout hc₁ hc₂ hreq hwindow => ?_,
    fun s₁ s₂ u₁ u₂ c₁ c₂ k hc₁ hc₂ hk₁ hk₂ hr₁ hr₂ => ?_⟩
  · obtain ⟨pl, hpl⟩ : ∃ pl, planOf s₁.params.layout i c₁ = pl := ⟨_, rfl⟩
    have hpl₂ : planOf s₂.params.layout i c₂ = pl := by rw [← hlayout, ← planOf_congr _ i hreq, hpl]
    have hdec : pl.Decided s₁.params.layout i c₁ := hpl ▸ planOf_decided s₁.params.layout i c₁
    obtain ⟨hexec₁, hunit₁⟩ := exec_of_plan hc₁ hpl
    obtain ⟨hexec₂, hunit₂⟩ := exec_of_plan hc₂ hpl₂
    obtain ⟨hstate, hidle, hwait⟩ := pl.unitAfter_sameOutcome c₁ c₂ hlayout (hdec.readBytes_congr hwindow)
    refine ⟨_, _, _, _, hexec₁, hexec₂, hunit₁, hunit₂, hstate, hidle, hwait, fun a hlo hhi => ?_,
      fun a ha => ?_, fun a ha => ?_⟩ <;> simp only [State.carryOut_buf]
    · exact hdec.bufAfter_window hlo hhi (hwindow a hlo hhi)
    · exact hdec.bufAfter_outside s₁.buf ha
    · exact hdec.bufAfter_outside s₂.buf ha
  · obtain ⟨hstatus, hresponse⟩ := flushPlan_answer_congr k s₁ s₂ c₁.leaveFlush c₂.leaveFlush
    refine ⟨_, _, _, _, resume_of_resumable s₁ u₁ c₁ k hc₁ hk₁ hr₁, resume_of_resumable s₂ u₂ c₂ k hc₂ hk₂ hr₂,
      s₁.carryOut_unit u₁ _ c₁ _ hc₁, s₂.carryOut_unit u₂ _ c₂ _ hc₂, hstatus, hresponse, fun hok a ha => ?_⟩
    simp only [State.carryOut_buf]
    have hwritten (m : Memory) := flushPlan_bytes_of_ok k s₁ c₁.leaveFlush m hok ha
    exact Option.some_inj.mp ((hwritten s₁.buf).symm.trans (hwritten s₂.buf))

end Machine

end Sys2Proof

/-! SUPPORT. The flush handshake (spec/40_contract.md R139 to R143): its two steps, the moves between them, and the
unit that waits. -/

namespace Sys2Proof.Machine

/-! ### A move and the units it replaces -/

theorem EndsOnlyUnit.units_eq_set {v : Nat} {s t : State} (h : EndsOnlyUnit v s t) :
    ∃ d, t.units = s.units.set v d := by
  obtain ⟨-, d, -, hunits, -⟩ := h
  exact ⟨d, hunits⟩

/-- A move leaves the units as they are, or replaces the one it belongs to. -/
theorem runMove_units (m : Move) (s t : State) (ht : runMove m s = .next t) :
    t.units = s.units ∨ ∃ v d, m.unit? = some v ∧ t.units = s.units.set v d := by
  have hends {v : Nat} (hv : m.unit? = some v) (h : EndsOnlyUnit v s t) :
      t.units = s.units ∨ ∃ v d, m.unit? = some v ∧ t.units = s.units.set v d :=
    have ⟨d, hunits⟩ := h.units_eq_set
    .inr ⟨v, d, hv, hunits⟩
  cases m with
  | writeReg v w =>
    obtain ⟨c, -, -, -, rfl⟩ := hostWriteReg_next v w s t ht
    exact .inr ⟨v, _, rfl, rfl⟩
  | readReg v r =>
    obtain ⟨-, -, -, -, rfl⟩ := hostReadReg_next v r s t ht
    exact .inl rfl
  | issue v => exact hends rfl (issue_endsOnlyUnit ht)
  | begin v => exact hends rfl (beginSplit_endsOnlyUnit ht)
  | access v k =>
    obtain ⟨c, -, rfl | ⟨tok, o, got, -, -, rfl⟩ | ⟨base, o, bs, todo, b, -, -, -, rfl⟩⟩ := accessByte_next v k s t ht
    · exact .inl rfl
    · exact .inr ⟨v, _, rfl, rfl⟩
    · exact .inr ⟨v, _, rfl, rfl⟩
  | finish v => exact hends rfl (finishSplit_endsOnlyUnit ht)
  | resume v => exact hends rfl (resume_endsOnlyUnit ht)
  | resumeSplit v => exact hends rfl (resumeSplit_endsOnlyUnit ht)
  | reset v => exact hends rfl (resetUnit_endsOnlyUnit ht)
  | bufRead a =>
    obtain ⟨-, rfl⟩ := hostBufRead_next a s t ht
    exact .inl rfl
  | bufWrite a b =>
    obtain ⟨-, rfl⟩ := hostBufWrite_next a b s t ht
    exact .inl rfl
  | takeView v =>
    obtain ⟨-, -, -, -, rfl⟩ := hostTakeView_next v s t ht
    exact .inl rfl
  | viewRead v i =>
    obtain ⟨-, -, -, rfl⟩ := hostViewRead_next v i s t ht
    exact .inl rfl
  | viewWrite v i b =>
    obtain ⟨-, -, -, rfl⟩ := hostViewWrite_next v i b s t ht
    exact .inl rfl

/-- A move that is not of unit `u` leaves unit `u`. -/
theorem runMove_other {m : Move} {s t : State} {u : Nat} (hu : m.unit? ≠ some u) (ht : runMove m s = .next t) :
    t.units[u]? = s.units[u]? := by
  obtain hunits | ⟨v, d, hv, hunits⟩ := runMove_units m s t ht
  · rw [hunits]
  · have hne : v ≠ u := fun h => hu (h ▸ hv)
    rw [hunits, List.getElem?_set_ne hne]

/-- What every move of a run keeps, the run keeps. -/
theorem runMoves_induction {P : State → Prop} {ms : List Move} {s t : State}
    (hstep : ∀ m ∈ ms, ∀ s t, P s → runMove m s = .next t → P t) (hs : P s) (ht : runMoves ms s = .next t) :
    P t := by
  induction ms generalizing s with
  | nil => cases ht; exact hs
  | cons m ms ih =>
    obtain ⟨hm, hms⟩ := List.forall_mem_cons.mp hstep
    cases hrun : runMove m s with
    | next s₁ => exact ih hms (hm s s₁ hs hrun) (runMoves_cons hrun ▸ ht)
    | fault r => simp [runMoves, hrun] at ht
    | refused r => simp [runMoves, hrun] at ht

section
variable {s t : State} {u : Nat} {c : CodecUnit}

/-! ### A unit that waits (R142, R143) -/

theorem CodecUnit.notIssuable_of_waiting (hw : c.unitState = .flushWait) :
    c.notIssuable = some .issueInFlushWait := if_pos hw

theorem issue_of_waiting (hc : s.units[u]? = some c) (hw : c.unitState = .flushWait) :
    issue u s = .refused .issueInFlushWait := by
  simp [issue, hc, CodecUnit.notIssuable_of_waiting hw]

theorem beginSplit_of_waiting (hc : s.units[u]? = some c) (hw : c.unitState = .flushWait) :
    beginSplit u s = .refused .issueInFlushWait := by
  unfold beginSplit
  split
  · exact issue_of_waiting hc hw
  · simp [hc, CodecUnit.notIssuable_of_waiting hw]

/-- Settles O41: the two refusals, and the issue to another unit, which replaces that unit alone. -/
theorem issueRefusedInFlushWait : Obligations.IssueRefusedInFlushWait := by
  unfold Obligations.IssueRefusedInFlushWait
  intro s u c hc hw
  refine ⟨issue_of_waiting hc hw, beginSplit_of_waiting hc hw, fun v d hne hd hi hf => ?_⟩
  have hissue : runMove (.issue v) s = .next _ := issue_of_unit v s d hd (d.notIssuable_none.mpr ⟨hi, hf⟩)
  have hother : (Move.issue v).unit? ≠ some u := fun h => hne (Option.some_inj.mp h)
  exact ⟨_, hissue, (runMove_other hother hissue).trans hc⟩

/-- A unit that waits, not yet acknowledged, with nothing in flight. -/
def CodecUnit.Waiting (c : CodecUnit) : Prop :=
  c.unitState = .flushWait ∧ c.flushAck = false ∧ c.flight = none

theorem CodecUnit.Waiting.not_resumable (h : c.Waiting) : c.resumable ≠ true := by
  obtain ⟨-, hack, -⟩ := h
  simp [CodecUnit.resumable, hack]

theorem CodecUnit.Waiting.not_issuable (h : c.Waiting) : c.notIssuable ≠ none := by
  obtain ⟨hw, -, -⟩ := h
  simp [CodecUnit.notIssuable_of_waiting hw]

/-- No move but the acknowledgement and the reset changes a unit that waits. -/
theorem CodecUnit.Waiting.runMove_unit (h : c.Waiting) {m : Move} (hack : m ≠ .writeReg u (.flushAck true))
    (hreset : m ≠ .reset u) (hc : s.units[u]? = some c) (ht : runMove m s = .next t) : t.units[u]? = some c := by
  by_cases hu : m.unit? = some u
  case neg => exact (runMove_other hu ht).trans hc
  have hself {c' : CodecUnit} (hc' : s.units[u]? = some c') : c' = c := Option.some_inj.mp (hc'.symm.trans hc)
  obtain ⟨hw, hnack, hflight⟩ := id h
  cases m with
  | bufRead | bufWrite | viewRead | viewWrite => cases hu
  | reset v => cases hu; exact absurd rfl hreset
  | readReg v r =>
    obtain ⟨-, -, -, -, rfl⟩ := hostReadReg_next v r s t ht
    exact hc
  | takeView v =>
    obtain ⟨-, -, -, -, rfl⟩ := hostTakeView_next v s t ht
    exact hc
  | writeReg v w =>
    cases hu
    obtain ⟨c', hc', -, hany, rfl⟩ := hostWriteReg_next u w s t ht
    obtain rfl := hself hc'
    obtain ⟨b, rfl⟩ := w.anyState_eq_true (hany hw)
    cases b with
    | true => exact absurd rfl hack
    | false =>
      have hsame : c'.write (.flushAck false) = c' := by rw [CodecUnit.write_flushAck, ← hnack]
      rw [hsame]
      exact s.setUnit_same u c' c' hc
  | issue v =>
    cases hu
    obtain ⟨c', hc', hi, -⟩ := issue_next u s t ht
    exact absurd (hself hc' ▸ hi) h.not_issuable
  | begin v =>
    cases hu
    rw [runMove, beginSplit_of_waiting hc hw] at ht
    cases ht
  | access v k =>
    cases hu
    rw [runMove, accessByte_of_noFlight u k s c hc hflight] at ht
    cases ht; exact hc
  | finish v =>
    cases hu
    rw [runMove, finishSplit_of_noFlight u s c hc hflight] at ht
    cases ht; exact hc
  | resume v =>
    cases hu
    obtain ⟨c', hc', rfl | ⟨k, -, hr, -⟩⟩ := resume_next u s t ht
    · exact hc
    · exact absurd (hself hc' ▸ hr) h.not_resumable
  | resumeSplit v =>
    cases hu
    obtain ⟨-, hresume⟩ | ⟨-, c', hc', rfl | ⟨k, -, hr, -⟩⟩ := resumeSplit_next u s t ht
    · obtain ⟨c', hc', rfl | ⟨k, -, hr, -⟩⟩ := resume_next u s t hresume
      · exact hc
      · exact absurd (hself hc' ▸ hr) h.not_resumable
    · exact hc
    · exact absurd (hself hc' ▸ hr) h.not_resumable

/-- Settles O40: the waiting unit is kept by every move of the run. -/
theorem waitingUnitStays : Obligations.WaitingUnitStays := by
  unfold Obligations.WaitingUnitStays
  intro ms s t u c hc hw hack hflight hms ht
  have hwaiting : c.Waiting := ⟨hw, hack, hflight⟩
  refine runMoves_induction (P := fun r => r.units[u]? = some c) (fun m hm r r' hr hrun => ?_) hc ht
  obtain ⟨hnotAck, hnotReset⟩ := hms m hm
  exact hwaiting.runMove_unit hnotAck hnotReset hr hrun

/-! ### The two steps of the handshake (R140) -/

/-- A `putf` that does not fit and has a callback asks for a flush. -/
theorem planOf_putf_of_misfit {layout : Float80Layout} {i : Instr} {bs : List Byte} (hi : i.op = .putf)
    (hbs : encodeBytes layout i.token c.value = .ok bs) (hmiss : c.bufSize < c.offset + bs.length)
    (hcb : c.flushCb = true) :
    planOf layout i c = .flush { tok := i.token, offset := c.offset, bytes := bs, bufSize := c.bufSize } := by
  have hlen := (encodeBytes_ok layout i.token c.value bs c.len hbs).2
  have hfits : fits c.offset (i.token.length c.len) c.bufSize = false := by simpa [fits, ← hlen] using hmiss
  simp [planOf, hi, putfPlan, hbs, hfits, hcb]

/-- The response of an encode whose bytes went to 0, after a flush (R138). -/
theorem encodeResponse_at_zero (o n : Nat) :
    encodeResponse 0 n o = { rtag := .noValue, next := some n, delta := some ((n : Int) - o) } := by
  simp [encodeResponse]

/-- Step 2: the flush context alone says whether the bytes fit, what they are and what is answered. -/
theorem resume_flushContext (k : FlushContext) (hc : s.units[u]? = some c) (hw : c.unitState = .flushWait)
    (hk : c.ctx = some k) (hack : c.flushAck = true) :
    ∃ t d, resume u s = .next t ∧ t.units[u]? = some d ∧ d.flushAck = false ∧ d.ctx = none ∧
      d.flushOff = none ∧
      (k.bufSize < k.bytes.length → d.Answers .flushNoRoom noFields ∧ SameBuf s t) ∧
      (k.bytes.length ≤ k.bufSize →
        d.Answers .ok { rtag := .noValue, next := some k.bytes.length,
                        delta := some ((k.bytes.length : Int) - k.offset) } ∧
        (∀ j, j < k.bytes.length → k.bytes[j]? = some (t.buf.read j)) ∧
        SameBufOutside 0 k.bytes.length s t) := by
  refine ⟨_, _, resume_of_acknowledged s u c k hc hw hk hack, s.carryOut_unit u _ c _ hc, ?_⟩
  obtain ⟨hfits, h⟩ | ⟨hmiss, h⟩ := flushPlan_cases k <;> rw [h]
  · obtain ⟨hwindow, houtside⟩ := s.carryOut_write_window u c.leaveFlush 0 k.offset k.bytes
    refine ⟨rfl, rfl, rfl, fun hmiss => by omega, fun _ => ⟨?_, by simpa using hwindow, houtside⟩⟩
    rw [← encodeResponse_at_zero]
    exact c.leaveFlush.answers_respond _
  · exact ⟨rfl, rfl, rfl, fun _ => ⟨c.leaveFlush.answers_raise _, fun _ => rfl⟩, fun hfits => by omega⟩

end

/-- Settles O39: step 1 latches the context, no move between changes the unit, and step 2 reads the context. -/
theorem flushHandshake : Obligations.FlushHandshake := by
  unfold Obligations.FlushHandshake
  intro i s c bs hi hc hbs hmiss hcb
  let k : FlushContext := { tok := i.token, offset := c.offset, bytes := bs, bufSize := c.bufSize }
  let d := c.requestFlush k
  obtain ⟨hexec, hunit⟩ := exec_of_plan hc (planOf_putf_of_misfit hi hbs hmiss hcb)
  have hlen := (encodeBytes_ok s.params.layout i.token c.value bs c.len hbs).2
  refine ⟨_, d, hexec, hunit, fun _ => rfl, hlen, rfl, rfl, rfl, rfl, rfl,
    s.carryOut_frame s.active c (.flush k), fun ms t' hms ht' => ?_⟩
  have hwaiting : t'.units[s.active]? = some d := by
    refine runMoves_induction (P := fun r => r.units[s.active]? = some d) (fun m hm r r' hr hrun => ?_) hunit ht'
    rcases hms m hm with hother | ⟨reg, rfl⟩
    · exact (runMove_other hother hrun).trans hr
    · obtain ⟨-, -, -, -, rfl⟩ := hostReadReg_next s.active reg r r' hrun
      exact hr
  have hwrite := hostWriteReg_of_allowed hwaiting (.flushAck true) rfl (.inr rfl)
  obtain ⟨t₂, d₂, hresume, hd₂, hack, hctx, hoff, hmissed, hwritten⟩ :=
    resume_flushContext (c := d.write (.flushAck true)) k (t'.setUnit_same s.active _ d hwaiting) rfl rfl rfl
  exact ⟨_, t₂, d₂, hwrite, hresume, hd₂, hack, hctx, hoff, hmissed, hwritten⟩

end Sys2Proof.Machine

/-! SUPPORT. The bounds check at its corners, and the step that runs a decoded command (spec/40_contract.md R130,
R131, R134; 10_state.md R37). -/

namespace Sys2Proof.Machine

/-! ### The bounds check (R133, R134) -/

theorem fits_eq_true (o n size : Nat) : fits o n size = true ↔ o + n ≤ size := by simp [fits]

theorem fits_eq_false (o n size : Nat) : fits o n size = false ↔ size < o + n := by simp [fits]

/-- Settles O33: each corner is the sum on unbounded integers, which does not wrap. -/
theorem fitsCornerCases : Obligations.FitsCornerCases := by
  unfold Obligations.FitsCornerCases
  intro n size hn
  exact ⟨fun hle => ⟨(fits_eq_true ..).mpr (by omega), (fits_eq_false ..).mpr (by omega)⟩,
    fun o ho => (fits_eq_false ..).mpr (by omega), fun o => (fits_eq_false ..).mpr (by omega),
    fun p hp => (fits_eq_false ..).mpr (by omega), fun o => fits_eq_true o n size⟩

/-! ### The step of an issue (R130, R131) -/

theorem step_of_issue (s : State) (u : Nat) (c : CodecUnit) (i : Instr) (rest : List Move)
    (hs : s.sched = .issue u :: rest) (hc : s.units[u]? = some c) (hissuable : c.notIssuable = none)
    (hd : decode c.cmd = .ok i) : step s = exec i (({ s with sched := rest } : State).latch u c) :=
  (step_cons s _ rest hs).trans (issue_of_decode _ u c i hc hissuable hd)

/-- A unit given a command word holds it and can take its issue (log 5). -/
theorem CodecUnit.withCommand_cmd (c : CodecUnit) (w : CommandWord) : (c.withCommand w).cmd = w := by
  unfold CodecUnit.withCommand
  cases c.unitState <;> rfl

theorem CodecUnit.withCommand_notIssuable (c : CodecUnit) (w : CommandWord) :
    (c.withCommand w).notIssuable = none := by
  refine (c.withCommand w).notIssuable_none.mpr ?_
  unfold CodecUnit.withCommand
  cases c.unitState <;> exact ⟨rfl, rfl⟩

theorem State.withCommand_of_unit (s : State) (w : CommandWord) (c : CodecUnit) (hc : s.units[0]? = some c) :
    s.withCommand w = { s.setUnit 0 (c.withCommand w) with sched := .issue 0 :: s.sched } := by
  simp [State.withCommand, hc, State.setUnit]

theorem decode_of_decodeTableWord {nbits w : Nat} {i : Instr} (h : decodeTableWord nbits w = some i) :
    decode (wordOfBits nbits w) = .ok i := by
  unfold decodeTableWord at h
  split at h
  · next hd => cases h; exact hd
  · cases h

/-- Settles O47: the scheduled issue, and the issue that `withFetchWord` schedules. -/
theorem stepRunsDecoded : Obligations.StepRunsDecoded := by
  unfold Obligations.StepRunsDecoded
  refine ⟨fun s u c i rest hs hc hi hf hd => ?_, fun s c nbits w i hc hd => ?_⟩
  · exact step_of_issue s u c i rest hs hc (c.notIssuable_none.mpr ⟨hi, hf⟩) hd
  · have hdecode : decode (c.withCommand (wordOfBits nbits w)).cmd = .ok i := by
      rw [CodecUnit.withCommand_cmd, decode_of_decodeTableWord hd]
    rw [State.withFetchWord, s.withCommand_of_unit _ c hc]
    exact step_of_issue _ 0 _ i s.sched rfl (s.setUnit_same 0 _ c hc) (c.withCommand_notIssuable _) hdecode

end Sys2Proof.Machine

/-! SUPPORT. The integer codecs as functions (spec/41_integer.md R160 to R168): a domain holds one value of each
residue modulo 2^(8n), so encode and decode are inverse; what the host reads from RESULT; what byte order and
signedness change. -/

namespace Sys2Proof

/-! ### Lists of bytes as numbers (R13) -/

theorem IntWidth.bytes_pos (w : IntWidth) : 0 < w.bytes := by cases w <;> decide

theorem IntWidth.bytes_le_eight (w : IntWidth) : w.bytes ≤ 8 := by cases w <;> decide

theorem assembleLE_lt (bs : List Byte) : assembleLE bs < 256 ^ bs.length := by
  induction bs with
  | nil => decide
  | cons b bs ih =>
    have hb : b.toNat < 256 := b.isLt
    rw [assembleLE, List.length_cons, pow_succ']
    omega

theorem assemble_lt (order : ByteOrder) (bs : List Byte) : assemble order bs < 2 ^ (8 * bs.length) := by
  rw [← pow_256_eq]
  cases order with
  | le => exact assembleLE_lt bs
  | be => simpa [assemble, assembleBE] using assembleLE_lt bs.reverse

theorem splitLE_assembleLE (bs : List Byte) : splitLE (assembleLE bs) bs.length = bs := by
  induction bs with
  | nil => rfl
  | cons b bs ih =>
    have hb : b.toNat < 256 := b.isLt
    have hlow : (b.toNat + 256 * assembleLE bs) % 256 = b.toNat := by omega
    have hhigh : (b.toNat + 256 * assembleLE bs) / 256 = assembleLE bs := by omega
    rw [assembleLE, List.length_cons, splitLE, hlow, hhigh, ih, BitVec.ofNat_toNat, BitVec.setWidth_eq]

/-- `split_X(assemble_X(bs), n) = bs`, the other half of `assemble_split`. -/
theorem split_assemble (order : ByteOrder) (bs : List Byte) : split order (assemble order bs) bs.length = bs := by
  cases order with
  | le => exact splitLE_assembleLE bs
  | be =>
    have h := splitLE_assembleLE bs.reverse
    rw [List.length_reverse] at h
    rw [split, splitBE, assemble, assembleBE, h, List.reverse_reverse]

/-- The byte in the most significant place is what is left of the number above the other bytes. -/
theorem toNat_topByte (order : ByteOrder) (bs : List Byte) (k : Nat) (top : Byte)
    (hplace : Machine.bytePlace order bs.length k = bs.length - 1) (htop : bs[k]? = some top) :
    top.toNat = assemble order bs / 256 ^ (bs.length - 1) := by
  obtain ⟨hk, -⟩ := List.getElem?_eq_some_iff.mp htop
  have hdigit := getElem?_split order (assemble order bs) bs.length k hk
  rw [split_assemble, htop, hplace, Option.some_inj] at hdigit
  have hlt : assemble order bs / 256 ^ (bs.length - 1) < 256 := by
    rw [Nat.div_lt_iff_lt_mul (by positivity), ← pow_succ', Nat.sub_add_cancel (by omega), pow_256_eq]
    exact assemble_lt order bs
  rw [hdigit, BitVec.toNat_ofNat, Nat.mod_eq_of_lt hlt]

/-- The top bit of the number is the top bit of its most significant byte. -/
theorem half_le_assemble_iff (order : ByteOrder) (bs : List Byte) (k : Nat) (top : Byte)
    (hplace : Machine.bytePlace order bs.length k = bs.length - 1) (htop : bs[k]? = some top) :
    2 ^ (8 * bs.length - 1) ≤ assemble order bs ↔ 0x80 ≤ top.toNat := by
  obtain ⟨hk, -⟩ := List.getElem?_eq_some_iff.mp htop
  have hhalf : 2 ^ (8 * bs.length - 1) = 0x80 * 256 ^ (bs.length - 1) := by
    rw [pow_256_eq, show 0x80 = 2 ^ 7 from rfl, ← pow_add]
    congr 1
    omega
  rw [toNat_topByte order bs k top hplace htop, Nat.le_div_iff_mul_le (by positivity), hhalf]

namespace Machine

/-! ### The domains (R160) -/

/-- A domain holds 2^(8n) values. -/
theorem intHi_eq (sg : Signedness) (w : IntWidth) : intHi sg w = intLo sg w + 2 ^ (8 * w.bytes) - 1 := by
  cases sg <;> cases w <;> rfl

/-- Two values of one domain with the same residue modulo 2^(8n) are the same. -/
theorem eq_of_emod_eq_of_mem_domain {sg : Signedness} {w : IntWidth} {u v : Int}
    (hu : u ∈ Set.Icc (intLo sg w) (intHi sg w)) (hv : v ∈ Set.Icc (intLo sg w) (intHi sg w))
    (h : u % 2 ^ (8 * w.bytes) = v % 2 ^ (8 * w.bytes)) : u = v := by
  rw [intHi_eq, Set.mem_Icc] at hu hv
  have hdvd : (2 : Int) ^ (8 * w.bytes) ∣ u - v :=
    Int.dvd_of_emod_eq_zero (Int.emod_eq_emod_iff_emod_sub_eq_zero.mp h)
  have hsmall : |u - v| < (2 : Int) ^ (8 * w.bytes) := abs_lt.mpr (by omega)
  exact sub_eq_zero.mp (Int.eq_zero_of_abs_lt_dvd hdvd hsmall)

/-! ### Encode (R163) -/

theorem intEncode_of_mem {sg : Signedness} {w : IntWidth} {v : Int} (order : ByteOrder)
    (h : v ∈ Set.Icc (intLo sg w) (intHi sg w)) :
    intEncode sg w order v = .ok (split order (v % 2 ^ (8 * w.bytes)).toNat w.bytes) :=
  have ⟨hlo, hhi⟩ := h
  if_neg (not_or.mpr ⟨not_lt.mpr hlo, not_lt.mpr hhi⟩)

theorem intEncode_of_outOfRange {sg : Signedness} {w : IntWidth} {v : Int} (order : ByteOrder)
    (h : v < intLo sg w ∨ intHi sg w < v) : intEncode sg w order v = .error .outOfRange :=
  if_pos h

/-- What an encode that gives bytes has encoded, and to which bytes. -/
theorem intEncode_eq_ok_iff {sg : Signedness} {w : IntWidth} {order : ByteOrder} {v : Int} {bs : List Byte} :
    intEncode sg w order v = .ok bs ↔
      v ∈ Set.Icc (intLo sg w) (intHi sg w) ∧ bs = split order (v % 2 ^ (8 * w.bytes)).toNat w.bytes := by
  by_cases h : v ∈ Set.Icc (intLo sg w) (intHi sg w)
  · simp [intEncode_of_mem order h, h, eq_comm]
  · have hout : v < intLo sg w ∨ intHi sg w < v := by rw [Set.mem_Icc] at h; omega
    simp [intEncode_of_outOfRange order hout, h]

/-- Settles O8: the table by evaluation, and the success of an encode by its inversion. -/
theorem integerRanges : Obligations.IntegerRanges := by
  unfold Obligations.IntegerRanges
  refine ⟨by decide, fun sg w order v => ?_⟩
  simp [intEncode_eq_ok_iff]

/-- Settles O9: the two branches of the encode, the bytes being the value's digits. -/
theorem integerEncodeBytes : Obligations.IntegerEncodeBytes := by
  unfold Obligations.IntegerEncodeBytes
  intro layout sg w order v
  refine ⟨intEncode_of_outOfRange order, fun hlo hhi => ?_⟩
  exact ⟨_, encodeBytes_int_of_inRange layout sg w order v hlo hhi, length_split ..,
    getElem?_split_emod order v.toInt w.bytes⟩

/-! ### Decode (R161) -/

theorem intDecode_unsigned (order : ByteOrder) (bs : List Byte) :
    intDecode .unsigned order bs = assemble order bs := rfl

theorem intDecode_signed_of_half_le {order : ByteOrder} {bs : List Byte}
    (h : 2 ^ (8 * bs.length - 1) ≤ assemble order bs) :
    intDecode .signed order bs = assemble order bs - 2 ^ (8 * bs.length) := if_pos h

theorem intDecode_signed_of_lt_half {order : ByteOrder} {bs : List Byte}
    (h : assemble order bs < 2 ^ (8 * bs.length - 1)) : intDecode .signed order bs = assemble order bs :=
  if_neg (not_le.mpr h)

/-- A decode and the number its bytes spell are the same modulo 2^(8n). -/
theorem intDecode_emod (sg : Signedness) (order : ByteOrder) (bs : List Byte) :
    intDecode sg order bs % 2 ^ (8 * bs.length) = assemble order bs := by
  have hlt : (assemble order bs : Int) < 2 ^ (8 * bs.length) := by exact_mod_cast assemble_lt order bs
  have hself : (assemble order bs : Int) % 2 ^ (8 * bs.length) = assemble order bs :=
    Int.emod_eq_of_lt (Int.natCast_nonneg _) hlt
  cases sg with
  | unsigned => exact hself
  | signed =>
    rcases le_or_gt (2 ^ (8 * bs.length - 1)) (assemble order bs) with h | h
    · rw [intDecode_signed_of_half_le h, Int.sub_emod_right, hself]
    · rw [intDecode_signed_of_lt_half h, hself]

/-- The signed reading is the two's complement reading of the pattern. -/
theorem intDecode_signed_eq_toInt (order : ByteOrder) {bs : List Byte} (hpos : 0 < bs.length) :
    intDecode .signed order bs = (BitVec.ofNat (8 * bs.length) (assemble order bs)).toInt := by
  have hhalf : 2 * 2 ^ (8 * bs.length - 1) = 2 ^ (8 * bs.length) := mul_pow_sub_one (by omega) 2
  rw [BitVec.toInt_eq_toNat_cond, BitVec.toNat_ofNat, Nat.mod_eq_of_lt (assemble_lt order bs)]
  rcases le_or_gt (2 ^ (8 * bs.length - 1)) (assemble order bs) with h | h
  · rw [intDecode_signed_of_half_le h, if_neg (by omega), Nat.cast_pow, Nat.cast_ofNat]
  · rw [intDecode_signed_of_lt_half h, if_pos (by omega)]

/-- Every pattern of n bytes decodes to a value of the token's domain (R168). -/
theorem intDecode_mem_domain (sg : Signedness) {w : IntWidth} (order : ByteOrder) {bs : List Byte}
    (hlen : bs.length = w.bytes) : intDecode sg order bs ∈ Set.Icc (intLo sg w) (intHi sg w) := by
  have hlt : (assemble order bs : Int) < 2 ^ (8 * w.bytes) := by
    rw [← hlen]; exact_mod_cast assemble_lt order bs
  cases sg with
  | unsigned => exact ⟨Int.natCast_nonneg _, Int.le_sub_one_of_lt hlt⟩
  | signed =>
    rw [intDecode_signed_eq_toInt order (w.bytes_pos.trans_eq hlen.symm), hlen]
    exact ⟨BitVec.le_toInt _, Int.le_sub_one_of_lt BitVec.toInt_lt⟩

/-! ### Encode and decode are inverse (R166) -/

theorem intDecode_of_intEncode {sg : Signedness} {w : IntWidth} {order : ByteOrder} {v : Int} {bs : List Byte}
    (h : intEncode sg w order v = .ok bs) : intDecode sg order bs = v := by
  obtain ⟨hv, rfl⟩ := intEncode_eq_ok_iff.mp h
  have hlen : (split order (v % 2 ^ (8 * w.bytes)).toNat w.bytes).length = w.bytes := length_split ..
  refine eq_of_emod_eq_of_mem_domain (intDecode_mem_domain sg order hlen) hv ?_
  have hnonneg : 0 ≤ v % 2 ^ (8 * w.bytes) := Int.emod_nonneg _ (by positivity)
  have hlt : (v % 2 ^ (8 * w.bytes)).toNat < 2 ^ (8 * w.bytes) := by
    zify
    rw [Int.toNat_of_nonneg hnonneg]
    exact Int.emod_lt_of_pos _ (by positivity)
  have hdecode := intDecode_emod sg order (split order (v % 2 ^ (8 * w.bytes)).toNat w.bytes)
  rw [hlen, assemble_split order _ _ hlt, Int.toNat_of_nonneg hnonneg] at hdecode
  exact hdecode

theorem intEncode_intDecode (sg : Signedness) {w : IntWidth} (order : ByteOrder) {bs : List Byte}
    (hlen : bs.length = w.bytes) : intEncode sg w order (intDecode sg order bs) = .ok bs := by
  rw [intEncode_of_mem order (intDecode_mem_domain sg order hlen), ← hlen, intDecode_emod, Int.toNat_natCast,
    split_assemble]

/-! ### RESULT as the host reads it (R162) -/

/-- Every domain lies within that of the widest token, whose values are those of RESULT. -/
theorem domain_subset_w8 (sg : Signedness) (w : IntWidth) :
    Set.Icc (intLo sg w) (intHi sg w) ⊆ Set.Icc (intLo sg .w8) (intHi sg .w8) :=
  Set.Icc_subset_Icc (by cases sg <;> cases w <;> decide) (by cases sg <;> cases w <;> decide)

theorem toNat_intResult {w : IntWidth} {v : Int} (h : v ∈ Set.Icc (intLo .unsigned w) (intHi .unsigned w)) :
    ((intResult v).toNat : Int) = v := by
  obtain ⟨hlo, hhi⟩ := domain_subset_w8 .unsigned w h
  simp only [intLo, intHi, IntWidth.bytes] at hlo hhi
  rw [intResult, BitVec.toNat_ofInt]
  omega

theorem toInt_intResult {w : IntWidth} {v : Int} (h : v ∈ Set.Icc (intLo .signed w) (intHi .signed w)) :
    (intResult v).toInt = v := by
  obtain ⟨hlo, hhi⟩ := domain_subset_w8 .signed w h
  simp only [intLo, intHi, IntWidth.bytes] at hlo hhi
  rw [intResult, BitVec.toInt_ofInt]
  exact Int.bmod_eq_of_le (by omega) (by omega)

/-- The host reads back every value of a domain. -/
theorem hostInteger_intResult {sg : Signedness} {w : IntWidth} {v : Int}
    (h : v ∈ Set.Icc (intLo sg w) (intHi sg w)) : hostInteger (intTag sg) (intResult v) = some v := by
  cases sg with
  | unsigned => exact congrArg some (toNat_intResult h)
  | signed => exact congrArg some (toInt_intResult h)

/-- An integer `get` that fits answers the decode of its window, whatever the signedness. -/
theorem exec_int_get_of_fits {i : Instr} {s : State} {c : CodecUnit} {sg : Signedness} {w : IntWidth}
    {order : ByteOrder} (hi : i.op = .get) (htok : i.token = .int sg w order)
    (hc : s.units[s.active]? = some c) (hfits : c.offset + w.bytes ≤ c.bufSize) :
    ∃ t d, exec i s = .next t ∧ t.units[s.active]? = some d ∧ d.rtag = some (intTag sg) ∧
      d.result = some (intResult (intDecode sg order (s.buf.readBytes c.offset w.bytes))) := by
  obtain ⟨t, d, hexec, hunit, -, -, -, hrtag, hresult, -⟩ := exec_get_of_fits hi htok rfl rfl hc hfits
  exact ⟨t, d, hexec, hunit, hrtag, hresult⟩

/-- Settles O14: RESULT holds the decode of the window, which either reading gives back. -/
theorem integerHostReads : Obligations.IntegerHostReads := by
  unfold Obligations.IntegerHostReads
  intro i s c sg w order hi htok hc hfits
  obtain ⟨t, d, hexec, hunit, hrtag, hresult⟩ := exec_int_get_of_fits hi htok hc hfits
  have hlen : (s.buf.readBytes c.offset w.bytes).length = w.bytes := Memory.length_readBytes ..
  have hmem := intDecode_mem_domain sg order hlen
  refine ⟨t, d, _, hexec, hunit, hresult, ?_, ?_⟩ <;> rintro rfl
  · refine ⟨hrtag, rfl, Int.natCast_inj.mp ?_⟩
    rw [toNat_intResult hmem, intDecode_unsigned, assemble_readBytes]
  · have hpattern : intDecode .signed order (s.buf.readBytes c.offset w.bytes) =
        (BitVec.ofNat (8 * w.bytes) (windowValue order s.buf c.offset w.bytes)).toInt := by
      rw [intDecode_signed_eq_toInt order (w.bytes_pos.trans_eq hlen.symm), assemble_readBytes, hlen]
    refine ⟨hrtag, rfl, ?_, (toInt_intResult hmem).trans hpattern⟩
    rw [hpattern]
    rfl

/-! ### A `put`, then a `get` (R166) -/

/-- The bytes of a list that stand in a window are what MemRead gives. -/
theorem Memory.readBytes_of_bytes (m : Memory) (o : Nat) (bs : List Byte)
    (h : ∀ k, k < bs.length → bs[k]? = some (m.read (o + k))) : m.readBytes o bs.length = bs := by
  apply List.ext_getElem?
  intro k
  by_cases hk : k < bs.length
  · rw [m.getElem?_readBytes o _ k hk, h k hk]
  · rw [List.getElem?_eq_none (by simpa using hk), List.getElem?_eq_none (by simpa using hk)]

/-- Settles O16: the `get` finds the bytes of the `put` in its window, and decode inverts encode. -/
theorem integerRoundTrip : Obligations.IntegerRoundTrip := by
  unfold Obligations.IntegerRoundTrip
  refine ⟨fun i j s c sg w order hi hj hitok hjtok hc hlo hhi hfits => ?_,
    fun sg w order => ⟨fun v bs => intDecode_of_intEncode, fun bs => intEncode_intDecode sg order⟩⟩
  have hmem : c.value.toInt ∈ Set.Icc (intLo sg w) (intHi sg w) := ⟨hlo, hhi⟩
  obtain ⟨bs, hbs⟩ : ∃ bs, intEncode sg w order c.value.toInt = .ok bs := ⟨_, intEncode_of_mem order hmem⟩
  obtain ⟨-, hlen⟩ := encodeBytes_ok s.params.layout (.int sg w order) c.value bs c.len hbs
  rw [Token.length] at hlen
  obtain ⟨t, d, hput, hd, hframe, -, hwindow, -⟩ := exec_encode_of_fits (.inl hi) hitok hc hbs (hlen ▸ hfits)
  have hd' : t.units[t.active]? = some d := hframe.active ▸ hd
  have hfits' : d.offset + w.bytes ≤ d.bufSize := by rw [hframe.offset, hframe.bufSize]; exact hfits
  obtain ⟨t', d', hget, hunit, hrtag, hresult⟩ := exec_int_get_of_fits hj hjtok hd' hfits'
  rw [hframe.offset, ← hlen, t.buf.readBytes_of_bytes c.offset bs hwindow, intDecode_of_intEncode hbs] at hresult
  exact ⟨t, t', d', _, _, hput, hget, hframe.active ▸ hunit, hrtag, hresult, hostInteger_intResult hmem⟩

/-! ### Byte order (R165, R268) -/

theorem split_be (x n : Nat) : split .be x n = (split .le x n).reverse := rfl

theorem assemble_be (bs : List Byte) : assemble .be bs = assemble .le bs.reverse := rfl

/-- Settles O10: `split` and `assemble` are where the byte order is looked at. -/
theorem byteOrderSymmetry : Obligations.ByteOrderSymmetry := by
  unfold Obligations.ByteOrderSymmetry
  refine ⟨fun layout sg w v bs h => ?_, fun sg bs => ?_, fun layout f v => ⟨_, rfl, ?_⟩,
    fun layout f o bs => ?_⟩
  · obtain ⟨hmem, rfl⟩ := intEncode_eq_ok_iff.mp h
    exact intEncode_of_mem .be hmem
  · unfold intDecode
    rw [assemble_be, List.length_reverse]
  · rw [encodeBytes, split_be]
  · rw [getResponse, assemble_be, getResponse]

/-! ### Signedness (R167) -/

/-- The values both tokens of a width hold. -/
theorem mem_domains_of_le {w : IntWidth} {v : Int} (h0 : 0 ≤ v) (hv : v ≤ intHi .signed w) (sg : Signedness) :
    v ∈ Set.Icc (intLo sg w) (intHi sg w) := by
  have hlo : intLo sg w ≤ 0 := by cases sg <;> cases w <;> decide
  have hhi : intHi .signed w ≤ intHi sg w := by cases sg <;> cases w <;> decide
  exact ⟨hlo.trans h0, hv.trans hhi⟩

/-- Settles O11: one residue for both encodes, and the top bit for the two readings. -/
theorem signednessSameBytes : Obligations.SignednessSameBytes := by
  unfold Obligations.SignednessSameBytes
  refine ⟨fun w order v h0 hv => ?_, fun w order bs k top hlen hplace htop => ?_⟩
  · exact ⟨_, intEncode_of_mem order (mem_domains_of_le h0 hv .unsigned),
      intEncode_of_mem order (mem_domains_of_le h0 hv .signed)⟩
  · rw [← hlen] at hplace ⊢
    have htopBit := half_le_assemble_iff order bs k top hplace htop
    have hpos : (0 : Int) < 2 ^ (8 * bs.length) := by positivity
    rw [intDecode_unsigned]
    rcases le_or_gt (2 ^ (8 * bs.length - 1)) (assemble order bs) with h | h
    · have h80 : 0x80 ≤ top.toNat := htopBit.mp h
      rw [intDecode_signed_of_half_le h]
      omega
    · have h80 : ¬ 0x80 ≤ top.toNat := mt htopBit.mpr (not_le.mpr h)
      rw [intDecode_signed_of_lt_half h]
      omega

end Machine

end Sys2Proof

/-! SUPPORT. Round to nearest, ties to even, as a property of the rational value (spec/42_float.md R252): `rne` is the
only integer that has it, so a rounding depends on the value alone and not on how it is written. -/

namespace Sys2Proof.Machine

/-! ### floor(log2 |r|) (R252) -/

/-- The exponent that `roundFmt` reads off a significand and a power of two is that of their value. -/
theorem log2_add_eq_log {m : Nat} (hm : m ≠ 0) (q : Int) : (m.log2 : Int) + q = Int.log 2 ((m : ℚ) * 2 ^ q) := by
  have hpos : (0 : ℚ) < m * 2 ^ q := by positivity
  have hlo : (2 : ℚ) ^ m.log2 ≤ m := by exact_mod_cast Nat.log2_self_le hm
  have hhi : (m : ℚ) < 2 ^ (m.log2 + 1) := by exact_mod_cast Nat.lt_log2_self
  apply le_antisymm
  · rw [← Int.zpow_le_iff_le_log one_lt_two hpos, Nat.cast_ofNat, zpow_add₀ two_ne_zero, zpow_natCast]
    gcongr
  · rw [← Int.lt_add_one_iff, ← Int.lt_zpow_iff_log_lt one_lt_two hpos, add_right_comm, Nat.cast_ofNat,
      zpow_add₀ two_ne_zero]
    have hq : (0 : ℚ) < 2 ^ q := by positivity
    exact mul_lt_mul_of_pos_right (by exact_mod_cast hhi) hq

theorem two_zpow_log2_le {m : Nat} (hm : m ≠ 0) (q : Int) : (2 : ℚ) ^ ((m.log2 : Int) + q) ≤ m * 2 ^ q := by
  rw [log2_add_eq_log hm]
  simpa using Int.zpow_log_le_self (b := 2) one_lt_two (r := (m : ℚ) * 2 ^ q) (by positivity)

theorem lt_two_zpow_log2 {m : Nat} (hm : m ≠ 0) (q : Int) : (m : ℚ) * 2 ^ q < 2 ^ ((m.log2 : Int) + q + 1) := by
  rw [log2_add_eq_log hm]
  simpa using Int.lt_zpow_succ_log_self (b := 2) one_lt_two ((m : ℚ) * 2 ^ q)

/-! ### Nearest, ties to even (R252) -/

/-- `n` is the integer nearest `x`, and the even one where another is equally near. -/
def IsNearestEven (x : ℚ) (n : Nat) : Prop := |x - n| ≤ 1 / 2 ∧ (|x - n| = 1 / 2 → Even n)

theorem IsNearestEven.of_eq {x : ℚ} {n : Nat} (h : x = n) : IsNearestEven x n := by
  constructor <;> simp [h]

theorem IsNearestEven.le_of {x : ℚ} {n n' : Nat} (h : IsNearestEven x n) (h' : IsNearestEven x n') : n' ≤ n := by
  by_contra! hlt
  obtain ⟨hnear, heven⟩ := h
  obtain ⟨hnear', heven'⟩ := h'
  have hlt' : (n : ℚ) + 1 ≤ n' := by exact_mod_cast hlt
  rw [abs_le] at hnear hnear'
  have hx : x = n + 1 / 2 := by linarith
  have hn : Even n := heven (by rw [hx]; norm_num)
  have hsucc : n' = n + 1 := by
    have : (n' : ℚ) = n + 1 := by linarith
    exact_mod_cast this
  have hn' : Even n' := heven' (by rw [hx, hsucc]; norm_num)
  rw [hsucc, Nat.even_add_one] at hn'
  exact hn' hn

theorem IsNearestEven.unique {x : ℚ} {n n' : Nat} (h : IsNearestEven x n) (h' : IsNearestEven x n') : n = n' :=
  le_antisymm (h'.le_of h) (h.le_of h')

/-- Two integers are at least 1 apart, so any other integer is at least 1/2 away. -/
theorem IsNearestEven.half_le {x : ℚ} {n : Nat} (h : IsNearestEven x n) {j : Int} (hj : j ≠ n) :
    1 / 2 ≤ |x - j| := by
  have hapart : (1 : ℚ) ≤ |(n : ℚ) - j| := by exact_mod_cast Int.one_le_abs (sub_ne_zero.mpr hj.symm)
  have htri : |(n : ℚ) - j| ≤ |x - n| + |x - j| := abs_sub_comm x n ▸ abs_sub_le _ x _
  linarith [h.1]

theorem IsNearestEven.le {x : ℚ} {n : Nat} (h : IsNearestEven x n) (j : Int) : |x - n| ≤ |x - j| := by
  by_cases hj : j = n
  · rw [hj, Int.cast_natCast]
  · exact h.1.trans (h.half_le hj)

theorem IsNearestEven.even_of_tie {x : ℚ} {n : Nat} (h : IsNearestEven x n) {j : Int} (hj : j ≠ n)
    (htie : |x - n| = |x - j|) : Even n :=
  h.2 (le_antisymm h.1 (htie ▸ h.half_le hj))

/-- With `x = q + t`, the fraction `t` below, above or at 1/2 decides between `q` and `q + 1`. -/
theorem isNearestEven_rne (m : Nat) (k : Int) : IsNearestEven ((m : ℚ) * 2 ^ k) (rne m k) := by
  unfold rne
  split
  · next hk =>
    lift k to Nat using hk
    exact .of_eq (by simp)
  · next hk =>
    obtain ⟨j, rfl⟩ : ∃ j : Nat, k = -j := ⟨(-k).toNat, by omega⟩
    rw [neg_neg, Int.toNat_natCast]
    extract_lets d q r
    have hd : (0 : ℚ) < d := by simp [d]
    have hr : (r : ℚ) < d := by exact_mod_cast Nat.mod_lt _ (Nat.two_pow_pos j)
    have hx : (m : ℚ) * 2 ^ (-(j : Int)) = q + r / d := by
      have hm : (m : ℚ) = d * q + r := by exact_mod_cast (Nat.div_add_mod m d).symm
      have hdj : (2 : ℚ) ^ j = d := by simp [d]
      rw [zpow_neg, zpow_natCast, hm, hdj]
      field_simp
    rw [hx]
    have ht0 : 0 ≤ (r : ℚ) / d := by positivity
    have ht1 : (r : ℚ) / d < 1 := (div_lt_one hd).mpr hr
    have hlow : 2 * r < d ↔ (r : ℚ) / d < 1 / 2 := by
      rw [div_lt_iff₀ hd, ← Nat.cast_lt (α := ℚ)]; push_cast; constructor <;> intro h <;> linarith
    have hhigh : d < 2 * r ↔ 1 / 2 < (r : ℚ) / d := by
      rw [lt_div_iff₀ hd, ← Nat.cast_lt (α := ℚ)]; push_cast; constructor <;> intro h <;> linarith
    rw [if_congr hlow rfl (if_congr hhigh rfl rfl)]
    generalize (r : ℚ) / d = t at ht0 ht1
    have hdown : |(q : ℚ) + t - q| = t := by rw [add_sub_cancel_left, abs_of_nonneg ht0]
    have hup : |(q : ℚ) + t - (q + 1 : Nat)| = 1 - t := by
      rw [abs_of_nonpos (by push_cast; linarith)]; push_cast; ring
    split_ifs with hlt hgt heven
    · exact ⟨by linarith, fun h => by linarith⟩
    · exact ⟨by linarith, fun h => by linarith⟩
    · exact ⟨by linarith, fun _ => Nat.even_iff.mpr heven⟩
    · exact ⟨by linarith, fun _ => Nat.even_add_one.mpr (mt Nat.even_iff.mp heven)⟩

theorem rne_eq_iff {m : Nat} {k : Int} {n : Nat} : rne m k = n ↔ IsNearestEven ((m : ℚ) * 2 ^ k) n :=
  ⟨fun h => h ▸ isNearestEven_rne m k, (isNearestEven_rne m k).unique⟩

theorem rne_of_exact {m : Nat} {k : Int} {n : Nat} (h : (m : ℚ) * 2 ^ k = n) : rne m k = n :=
  rne_eq_iff.mpr (.of_eq h)

end Sys2Proof.Machine

/-! SUPPORT. The fields of a binary pattern (spec/42_float.md R251, R253, R254): every pattern is a sign, an exponent
field and a fraction field; the finite patterns are those of a significand and an exponent that the format holds. -/

namespace Sys2Proof.Machine

namespace BinaryFormat

/-! ### What the formats of R251 share -/

/-- What the rows of R251 share: a fraction field, and a bias in the middle of the exponent field. -/
structure Interchange (F : BinaryFormat) : Prop where
  frac_pos : 0 < F.fracBits
  bias_pos : 0 < F.bias
  two_pow_expBits : 2 ^ F.expBits = 2 * F.bias + 2

theorem interchange_binary16 : binary16.Interchange := ⟨by decide, by decide, by decide⟩

theorem interchange_binary32 : binary32.Interchange := ⟨by decide, by decide, by decide⟩

theorem interchange_binary64 : binary64.Interchange := ⟨by decide, by decide, by decide⟩

theorem interchange_of_row {F : BinaryFormat} (h : F = binary16 ∨ F = binary32 ∨ F = binary64) : F.Interchange := by
  obtain rfl | rfl | rfl := h
  · exact interchange_binary16
  · exact interchange_binary32
  · exact interchange_binary64

theorem two_pow_precision (F : BinaryFormat) : 2 ^ F.precision = 2 * 2 ^ F.fracBits := by
  rw [precision, pow_succ']

theorem Interchange.maxExp_eq {F : BinaryFormat} (hF : F.Interchange) : F.maxExp = 2 * F.bias + 1 := by
  rw [maxExp, hF.two_pow_expBits]; rfl

/-! ### Patterns and their fields (R251) -/

/-- The pattern without its sign bit. -/
theorem magnitude_lt (F : BinaryFormat) {e f : Nat} (he : e < 2 ^ F.expBits) (hf : f < 2 ^ F.fracBits) :
    e * 2 ^ F.fracBits + f < 2 ^ (F.expBits + F.fracBits) := by
  have h : (e + 1) * 2 ^ F.fracBits ≤ 2 ^ (F.expBits + F.fracBits) :=
    pow_add 2 F.expBits F.fracBits ▸ Nat.mul_le_mul_right _ he
  rw [add_one_mul] at h
  omega

theorem fields_div (F : BinaryFormat) (neg : Bool) {e f : Nat} (hf : f < 2 ^ F.fracBits) :
    F.fields neg e f / 2 ^ F.fracBits = neg.toNat * 2 ^ F.expBits + e := by
  have h : F.fields neg e f = f + 2 ^ F.fracBits * (neg.toNat * 2 ^ F.expBits + e) := by
    rw [fields, pow_add]; ring
  rw [h, Nat.add_mul_div_left _ _ (Nat.two_pow_pos _), Nat.div_eq_of_lt hf, zero_add]

theorem fields_exponent (F : BinaryFormat) (neg : Bool) {e f : Nat} (he : e < 2 ^ F.expBits)
    (hf : f < 2 ^ F.fracBits) : F.fields neg e f / 2 ^ F.fracBits % 2 ^ F.expBits = e := by
  rw [F.fields_div neg hf, add_comm, Nat.add_mul_mod_self_right, Nat.mod_eq_of_lt he]

theorem fields_fraction (F : BinaryFormat) (neg : Bool) {e f : Nat} (hf : f < 2 ^ F.fracBits) :
    F.fields neg e f % 2 ^ F.fracBits = f := by
  have h : F.fields neg e f = f + 2 ^ F.fracBits * (neg.toNat * 2 ^ F.expBits + e) := by
    rw [fields, pow_add]; ring
  rw [h, Nat.add_mul_mod_self_left, Nat.mod_eq_of_lt hf]

theorem fields_sign (F : BinaryFormat) (neg : Bool) {e f : Nat} (he : e < 2 ^ F.expBits)
    (hf : f < 2 ^ F.fracBits) : (F.fields neg e f).testBit (F.expBits + F.fracBits) = neg := by
  have hdiv : F.fields neg e f / 2 ^ (F.expBits + F.fracBits) = neg.toNat := by
    rw [fields, add_assoc, add_comm, Nat.add_mul_div_right _ _ (Nat.two_pow_pos _),
      Nat.div_eq_of_lt (F.magnitude_lt he hf), zero_add]
  rw [Nat.testBit_eq_decide_div_mod_eq, hdiv]
  cases neg <;> rfl

/-- Every pattern is the one of its fields. -/
theorem fields_of_pattern (F : BinaryFormat) (x : Nat) :
    F.fields (x.testBit (F.expBits + F.fracBits)) (x / 2 ^ F.fracBits % 2 ^ F.expBits) (x % 2 ^ F.fracBits) =
      x % 2 ^ (F.expBits + F.fracBits + 1) := by
  have hsign : (x.testBit (F.expBits + F.fracBits)).toNat = x / 2 ^ (F.expBits + F.fracBits) % 2 :=
    Nat.toNat_testBit ..
  have hlow : x % 2 ^ (F.expBits + F.fracBits) =
      x % 2 ^ F.fracBits + 2 ^ F.fracBits * (x / 2 ^ F.fracBits % 2 ^ F.expBits) := by
    rw [add_comm F.expBits, pow_add, Nat.mod_mul]
  rw [fields, hsign, pow_succ, Nat.mod_mul, hlow]
  ring

end BinaryFormat

variable {F : BinaryFormat}

/-- UnpackBin by the fields (R254). -/
theorem unpackBin_fields (neg : Bool) {e f : Nat} (he : e < 2 ^ F.expBits) (hf : f < 2 ^ F.fracBits) :
    unpackBin F (F.fields neg e f) =
      if e = F.maxExp then (if f = 0 then .inf neg else .nan)
      else if e = 0 then (if f = 0 then .zero neg else .fin neg f (F.emin - F.fracBits))
      else .fin neg (2 ^ F.fracBits + f) ((e : Int) - F.bias - F.fracBits) := by
  rw [unpackBin, F.fields_sign neg he hf, F.fields_exponent neg he hf, F.fields_fraction neg hf]

/-- A pattern unpacks as its fields do. -/
theorem exists_fields (F : BinaryFormat) (x : Nat) :
    ∃ neg e f, e < 2 ^ F.expBits ∧ f < 2 ^ F.fracBits ∧ unpackBin F x = unpackBin F (F.fields neg e f) ∧
      F.fields neg e f = x % 2 ^ (F.expBits + F.fracBits + 1) := by
  have he : x / 2 ^ F.fracBits % 2 ^ F.expBits < 2 ^ F.expBits := Nat.mod_lt _ (Nat.two_pow_pos _)
  have hf : x % 2 ^ F.fracBits < 2 ^ F.fracBits := Nat.mod_lt _ (Nat.two_pow_pos _)
  exact ⟨_, _, _, he, hf, (unpackBin_fields _ he hf).symm, F.fields_of_pattern x⟩

/-! ### The finite patterns (R253, R254) -/

namespace BinaryFormat

/-- The format holds the value n * 2^(e - (P-1)) with the exponent e: in range, n of P bits, and n without its
leading bit only at the least exponent. -/
structure Holds (F : BinaryFormat) (e : Int) (n : Nat) : Prop where
  emin_le : F.emin ≤ e
  le_emax : e ≤ F.emax
  lt : n < 2 ^ F.precision
  normal : 2 ^ F.fracBits ≤ n ∨ e = F.emin

/-- The pattern of the significand n at the exponent e: the leading bit of n, where it has one, adds 1 to the
exponent field. -/
def pattern (F : BinaryFormat) (neg : Bool) (e : Int) (n : Nat) : Nat :=
  F.fields neg (e + F.bias - 1).toNat n

theorem pattern_emin (F : BinaryFormat) (neg : Bool) (n : Nat) : F.pattern neg F.emin n = F.fields neg 0 n := by
  rw [pattern, emin, show (1 - (F.bias : Int) + F.bias - 1).toNat = 0 by omega]

theorem pattern_of_normal (neg : Bool) {e : Int} {n : Nat} (he : F.emin ≤ e) (hn : 2 ^ F.fracBits ≤ n) :
    F.pattern neg e n = F.fields neg (e + F.bias).toNat (n - 2 ^ F.fracBits) := by
  rw [emin] at he
  rw [pattern, fields, fields, show (e + F.bias).toNat = (e + F.bias - 1).toNat + 1 by omega, add_one_mul]
  omega

/-- A significand that carries into one more bit is the next exponent's. -/
theorem pattern_carry (neg : Bool) {e : Int} (he : F.emin ≤ e) :
    F.pattern neg e (2 ^ F.precision) = F.pattern neg (e + 1) (2 ^ F.fracBits) := by
  rw [emin] at he
  rw [pattern, pattern, fields, fields, two_pow_precision,
    show (e + 1 + F.bias - 1).toNat = (e + F.bias - 1).toNat + 1 by omega]
  ring

/-- The carry out of the greatest exponent gives the pattern of the infinity. -/
theorem Interchange.pattern_emax_carry (hF : F.Interchange) (neg : Bool) :
    F.pattern neg F.emax (2 ^ F.precision) = F.fields neg F.maxExp 0 := by
  have hb := hF.bias_pos
  rw [pattern, fields, fields, hF.maxExp_eq, two_pow_precision, emax,
    show ((F.bias : Int) + F.bias - 1).toNat = 2 * F.bias - 1 by omega,
    show 2 * F.bias + 1 = 2 * F.bias - 1 + 2 by omega]
  ring

theorem Interchange.even_pattern_iff (hF : F.Interchange) (neg : Bool) (e : Int) (n : Nat) :
    F.pattern neg e n % 2 = 0 ↔ Even n := by
  obtain ⟨k, hk⟩ : ∃ k, F.fracBits = k + 1 := ⟨_, (Nat.succ_pred_eq_of_pos hF.frac_pos).symm⟩
  rw [← Nat.even_iff, pattern, fields, hk, ← add_assoc, pow_succ, pow_succ, ← mul_assoc, ← mul_assoc]
  simp [Nat.even_add]

end BinaryFormat

theorem unpackBin_pattern (hF : F.Interchange) (neg : Bool) {e : Int} {n : Nat} (h : F.Holds e n) :
    unpackBin F (F.pattern neg e n) = if n = 0 then .zero neg else .fin neg n (e - F.fracBits) := by
  obtain ⟨hlo, hhi, hlt, hnormal⟩ := h
  have hb := hF.bias_pos
  have hexp := hF.two_pow_expBits
  have hfrac := Nat.two_pow_pos F.fracBits
  rw [F.two_pow_precision] at hlt
  rcases le_or_gt (2 ^ F.fracBits) n with hn | hn
  · rw [BinaryFormat.emin] at hlo
    rw [BinaryFormat.emax] at hhi
    rw [BinaryFormat.pattern_of_normal neg hlo hn, unpackBin_fields neg (by omega) (by omega), hF.maxExp_eq,
      if_neg (by omega), if_neg (by omega), if_neg (by omega), Nat.add_sub_cancel' hn,
      Int.toNat_of_nonneg (by omega), add_sub_cancel_right]
  · obtain rfl : e = F.emin := hnormal.resolve_left (by omega)
    rw [F.pattern_emin, unpackBin_fields neg (by omega) hn, hF.maxExp_eq, if_neg (by omega), if_pos rfl]

/-- A finite pattern is that of a significand and an exponent the format holds. -/
theorem holds_of_unpackBin (hF : F.Interchange) {x : Nat} {neg : Bool} {m : Nat} {q : Int}
    (h : unpackBin F x = .fin neg m q) :
    F.Holds (q + F.fracBits) m ∧ m ≠ 0 ∧
      F.pattern neg (q + F.fracBits) m = x % 2 ^ (F.expBits + F.fracBits + 1) := by
  obtain ⟨neg', e, f, he, hf, hx, hpattern⟩ := exists_fields F x
  have hb := hF.bias_pos
  rw [hx, unpackBin_fields neg' he hf, hF.maxExp_eq] at h
  rw [← hpattern]
  have hexp := hF.two_pow_expBits
  have hprec := F.two_pow_precision
  split_ifs at h with htop hf0 he0 hf0 <;> cases h
  · rw [sub_add_cancel, F.pattern_emin, he0]
    exact ⟨⟨le_rfl, by rw [BinaryFormat.emin, BinaryFormat.emax]; omega, by omega, .inr rfl⟩, hf0, rfl⟩
  · rw [sub_add_cancel, BinaryFormat.pattern_of_normal neg (by rw [BinaryFormat.emin]; omega) (by omega),
      sub_add_cancel, Int.toNat_natCast, Nat.add_sub_cancel_left]
    exact ⟨⟨by rw [BinaryFormat.emin]; omega, by rw [BinaryFormat.emax]; omega, by omega, .inl (by omega)⟩,
      by have := Nat.two_pow_pos F.fracBits; omega, rfl⟩

/-- The rational value of a finite pattern, zeros included. -/
theorem exists_holds_of_toRat (hF : F.Interchange) {x : Nat} {z : ℚ} (h : (unpackBin F x).toRat = some z) :
    ∃ (neg : Bool) (e : Int) (n : Nat), F.Holds e n ∧
      z = (if neg then -1 else 1) * n * 2 ^ (e - F.fracBits) := by
  cases hx : unpackBin F x with
  | nan => rw [hx] at h; cases h
  | inf neg => rw [hx] at h; cases h
  | zero neg =>
    have hb := hF.bias_pos
    rw [hx] at h
    cases h
    exact ⟨neg, F.emin, 0, ⟨le_rfl, by rw [BinaryFormat.emin, BinaryFormat.emax]; omega, Nat.two_pow_pos _, .inr rfl⟩,
      by simp⟩
  | fin neg m q =>
    rw [hx] at h
    cases h
    exact ⟨neg, _, m, (holds_of_unpackBin hF hx).1, by rw [add_sub_cancel_right]⟩

/-! ### Packing (R253) -/

theorem pack_fin (neg : Bool) {e : Int} {n : Nat} (he : F.emin ≤ e) (hn : 2 ^ F.fracBits ≤ n ∨ e = F.emin) :
    pack F (.fin neg e n) = F.pattern neg e n := by
  rw [pack]
  split
  · next h => rw [BinaryFormat.pattern_of_normal neg he h]
  · next h => rw [hn.resolve_left h, F.pattern_emin]

/-- Settles O17: each case of the fields, and the two branches of `pack`. -/
theorem binaryLayouts : Obligations.BinaryLayouts := by
  unfold Obligations.BinaryLayouts
  intro F hrow
  have hF := BinaryFormat.interchange_of_row hrow
  have hmax : F.maxExp ≠ 0 := by rw [hF.maxExp_eq]; omega
  have hP : F.precision - 1 = F.fracBits := rfl
  rw [hP]
  refine ⟨fun neg e f he hf => ?_, fun neg => ⟨rfl, rfl, fun e m _ _ _ hm => if_pos hm, fun e m hm => ?_⟩⟩
  · rw [unpackBin_fields neg he hf]
    refine ⟨fun htop h0 => ?_, fun htop h0 => ?_, fun hzero h0 => ?_, fun hzero h0 => ?_, fun hzero htop => ?_⟩
    · rw [if_pos htop, if_pos h0]
    · rw [if_pos htop, if_neg h0]
    · rw [hzero, if_neg hmax.symm, if_pos rfl, if_pos h0]
    · rw [hzero, if_neg hmax.symm, if_pos rfl, if_neg h0]
      exact ⟨rfl, rfl⟩
    · rw [if_neg htop, if_neg hzero]
      exact ⟨rfl, rfl⟩
  · exact if_neg (not_le.mpr hm)

end Sys2Proof.Machine

/-! SUPPORT. RoundFmt into a binary format (spec/42_float.md R252, R253, R256): the exponent and the significand that a
value rounds to, the pattern they pack to, the overflow threshold, and which pattern is the nearest. -/

namespace Sys2Proof.Machine

/-! ### The exponent and the significand of a rounding (R252) -/

namespace BinaryFormat

/-- The exponent E at which (-1)^s * m * 2^q is rounded, before a carry. -/
def roundExp (F : BinaryFormat) (m : Nat) (q : Int) : Int := max ((m.log2 : Int) + q) F.emin

/-- The integer significand it is rounded to, before a carry. -/
def roundSig (F : BinaryFormat) (m : Nat) (q : Int) : Nat := rne m (q - (F.roundExp m q - F.fracBits))

variable (F : BinaryFormat) (m : Nat) (q : Int)

/-- The size of a last place at exponent e. -/
def ulp (e : Int) : ℚ := 2 ^ (e - F.fracBits)

theorem ulp_pos (e : Int) : 0 < F.ulp e := by rw [ulp]; positivity

theorem two_pow_mul_ulp (k : Nat) (e : Int) : 2 ^ k * F.ulp e = 2 ^ (k + e - F.fracBits) := by
  rw [ulp, ← zpow_natCast, ← zpow_add₀ two_ne_zero, add_sub_assoc]

theorem lead_mul_ulp (e : Int) : (2 ^ F.fracBits : Nat) * F.ulp e = 2 ^ e := by
  push_cast
  rw [two_pow_mul_ulp, add_sub_cancel_left]

theorem precision_mul_ulp (e : Int) : (2 ^ F.precision : Nat) * F.ulp e = 2 ^ (e + 1) := by
  rw [two_pow_precision, Nat.cast_mul, mul_assoc, lead_mul_ulp, zpow_add_one₀ two_ne_zero, mul_comm, Nat.cast_ofNat]

theorem emin_le_roundExp : F.emin ≤ F.roundExp m q := le_max_right _ _

theorem roundExp_eq_or : F.roundExp m q = m.log2 + q ∨ F.roundExp m q = F.emin := max_choice _ _

/-- The significand is the value, counted in last places, rounded to nearest, ties to even. -/
theorem isNearestEven_roundSig :
    IsNearestEven ((m : ℚ) * 2 ^ q / F.ulp (F.roundExp m q)) (F.roundSig m q) := by
  rw [ulp, mul_div_assoc, ← zpow_sub₀ two_ne_zero]
  exact isNearestEven_rne m _

theorem roundSig_le : F.roundSig m q ≤ 2 ^ F.precision := by
  have h : (m.log2 : Int) + q ≤ F.roundExp m q := le_max_left _ _
  exact rne_le Nat.lt_log2_self (by rw [precision]; push_cast; omega)

variable {m q}

theorem lt_two_zpow_roundExp (hm : m ≠ 0) : (m : ℚ) * 2 ^ q < 2 ^ (F.roundExp m q + 1) :=
  (lt_two_zpow_log2 hm q).trans_le (zpow_le_zpow_right₀ one_le_two (by rw [roundExp]; omega))

theorem two_zpow_roundExp_le (hm : m ≠ 0) (h : F.roundExp m q ≠ F.emin) :
    (2 : ℚ) ^ F.roundExp m q ≤ m * 2 ^ q := by
  rw [(F.roundExp_eq_or m q).resolve_right h]
  exact two_zpow_log2_le hm q

/-- Above the least exponent the significand keeps its leading bit. -/
theorem roundSig_normal (hm : m ≠ 0) : 2 ^ F.fracBits ≤ F.roundSig m q ∨ F.roundExp m q = F.emin := by
  by_cases h : F.roundExp m q = F.emin
  · exact .inr h
  · left
    have hx : ((2 ^ F.fracBits : Nat) : ℚ) ≤ m * 2 ^ q / F.ulp (F.roundExp m q) := by
      rw [le_div_iff₀ (F.ulp_pos _), lead_mul_ulp]
      exact F.two_zpow_roundExp_le hm h
    have hnear := (abs_le.mp (F.isNearestEven_roundSig m q).1).2
    have hlt : ((2 ^ F.fracBits : Nat) : ℚ) < (F.roundSig m q + 1 : Nat) := by push_cast at hx ⊢; linarith
    exact Nat.lt_succ_iff.mp (Nat.cast_lt.mp hlt)

end BinaryFormat

variable {F : BinaryFormat} {m : Nat} {q : Int}

/-! ### The pattern of a rounding (R253, R256) -/

/-- RoundFmt by whether the significand carries into one more bit. -/
theorem roundFmt_eq (F : BinaryFormat) (neg : Bool) (m : Nat) (q : Int) :
    roundFmt F neg m q =
      if F.roundSig m q = 2 ^ F.precision then
        if F.emax < F.roundExp m q + 1 then .inf neg else .fin neg (F.roundExp m q + 1) (2 ^ F.fracBits)
      else if F.emax < F.roundExp m q then .inf neg
      else if F.roundSig m q = 0 then .zero neg else .fin neg (F.roundExp m q) (F.roundSig m q) := by
  have hlead : 2 ^ F.fracBits ≠ 0 := (Nat.two_pow_pos _).ne'
  unfold roundFmt
  extract_lets e m₁ carry m₂ e₂
  by_cases hcarry : m₁ = 2 ^ F.precision
  · rw [if_pos (show F.roundSig m q = _ from hcarry), show m₂ = 2 ^ F.fracBits by simp [m₂, carry, hcarry],
      show e₂ = e + 1 by simp [e₂, carry, hcarry], if_neg hlead]
    rfl
  · rw [if_neg (show F.roundSig m q ≠ _ from hcarry), show m₂ = m₁ by simp [m₂, carry, hcarry],
      show e₂ = e by simp [e₂, carry, hcarry]]
    rfl

theorem packClass_of_lt_roundExp (neg : Bool) (h : F.emax < F.roundExp m q) :
    packClass F (.fin neg m q) = F.fields neg F.maxExp 0 := by
  rw [packClass, roundFmt_eq, if_pos (c := F.emax < F.roundExp m q + 1) (by omega), if_pos h, ite_self]
  rfl

/-- Up to the greatest exponent, the carry and the zero need no case of their own in the pattern. -/
theorem packClass_of_roundExp_le (hF : F.Interchange) (neg : Bool) (hm : m ≠ 0) (h : F.roundExp m q ≤ F.emax) :
    packClass F (.fin neg m q) = F.pattern neg (F.roundExp m q) (F.roundSig m q) := by
  have hmin := F.emin_le_roundExp m q
  have hnormal := F.roundSig_normal (q := q) hm
  have hfrac := Nat.two_pow_pos F.fracBits
  rw [packClass, roundFmt_eq]
  split_ifs with hcarry htop hover hzero
  · rw [hcarry, show F.roundExp m q = F.emax by omega, hF.pattern_emax_carry]
    rfl
  · rw [hcarry, BinaryFormat.pattern_carry neg hmin, pack_fin neg (by omega) (.inl le_rfl)]
  · omega
  · rw [hzero, hnormal.resolve_left (by omega), F.pattern_emin]
    rfl
  · exact pack_fin neg hmin hnormal

/-- Below overflow a pattern has the sign and the value of the rounding. -/
theorem unpackBin_pattern_value (hF : F.Interchange) (neg : Bool) {e : Int} {n : Nat} (hlo : F.emin ≤ e)
    (hhi : e ≤ F.emax) (hn : n ≤ 2 ^ F.precision) (hnormal : 2 ^ F.fracBits ≤ n ∨ e = F.emin)
    (hfin : ¬(e = F.emax ∧ n = 2 ^ F.precision)) :
    (unpackBin F (F.pattern neg e n)).sign = some neg ∧
      (unpackBin F (F.pattern neg e n)).toRat = some ((if neg then -1 else 1) * (n * F.ulp e)) := by
  by_cases hcarry : n = 2 ^ F.precision
  · have hlt : 2 ^ F.fracBits < 2 ^ F.precision := Nat.pow_lt_pow_right (by decide) (Nat.lt_succ_self _)
    have hholds : F.Holds (e + 1) (2 ^ F.fracBits) := ⟨by omega, by omega, hlt, .inl le_rfl⟩
    rw [hcarry, BinaryFormat.pattern_carry neg hlo, unpackBin_pattern hF neg hholds,
      if_neg (Nat.two_pow_pos _).ne', F.precision_mul_ulp, ← F.lead_mul_ulp, ← mul_assoc]
    exact ⟨rfl, rfl⟩
  · rw [unpackBin_pattern hF neg ⟨hlo, hhi, by omega, hnormal⟩, ← mul_assoc]
    split
    · next h0 => subst h0; exact ⟨rfl, by simp [FloatClass.toRat]⟩
    · exact ⟨rfl, rfl⟩

/-! ### Overflow (R256) -/

/-- Where the rounding leaves the format: half a last place below 2^(EMAX+1). -/
def BinaryFormat.threshold (F : BinaryFormat) : ℚ := 2 ^ (F.emax + 1) - 2 ^ (F.emax - F.precision)

theorem BinaryFormat.threshold_eq (F : BinaryFormat) :
    F.threshold = ((2 ^ F.precision : Nat) - 1 / 2) * F.ulp F.emax := by
  have hhalf : (2 : ℚ) ^ (F.emax - F.precision) = 1 / 2 * F.ulp F.emax := by
    rw [ulp, precision, Nat.cast_add, Nat.cast_one, ← sub_sub, zpow_sub_one₀ two_ne_zero]
    ring
  rw [threshold, hhalf, ← F.precision_mul_ulp, sub_mul]

/-- Below 2^P the significand comes to the carry exactly from the tie on, 2^P being even. -/
theorem isNearestEven_carry_iff {x : ℚ} (hx : x < (2 ^ F.precision : Nat)) :
    IsNearestEven x (2 ^ F.precision) ↔ (2 ^ F.precision : Nat) - 1 / 2 ≤ x := by
  have heven : Even (2 ^ F.precision) := by rw [F.two_pow_precision]; exact even_two_mul _
  rw [IsNearestEven, abs_of_neg (by linarith)]
  constructor
  · rintro ⟨h, -⟩
    linarith
  · exact fun h => ⟨by linarith, fun _ => heven⟩

/-- The rounding leaves the format exactly from the threshold on. -/
theorem threshold_le_iff (hF : F.Interchange) (hm : m ≠ 0) :
    F.threshold ≤ m * 2 ^ q ↔
      F.emax < F.roundExp m q ∨ (F.roundExp m q = F.emax ∧ F.roundSig m q = 2 ^ F.precision) := by
  have hb := hF.bias_pos
  have hemin : F.emin < F.emax := by rw [BinaryFormat.emin, BinaryFormat.emax]; omega
  have hbelow : F.threshold < 2 ^ (F.emax + 1) := sub_lt_self _ (by positivity)
  have habove : 2 ^ F.emax ≤ F.threshold := by
    have hle : (2 : ℚ) ^ (F.emax - F.precision) ≤ 2 ^ F.emax := zpow_le_zpow_right₀ one_le_two (by omega)
    rw [BinaryFormat.threshold, zpow_add_one₀ two_ne_zero]
    linarith
  have hlt := F.lt_two_zpow_roundExp (q := q) hm
  rcases lt_trichotomy (F.roundExp m q) F.emax with h | h | h
  · have hpow : (2 : ℚ) ^ (F.roundExp m q + 1) ≤ 2 ^ F.emax := zpow_le_zpow_right₀ one_le_two h
    exact iff_of_false (not_le.mpr (by linarith)) (by omega)
  · have hx : (m : ℚ) * 2 ^ q / F.ulp F.emax < (2 ^ F.precision : Nat) := by
      rw [div_lt_iff₀ (F.ulp_pos _), F.precision_mul_ulp, ← h]
      exact hlt
    have hsig : F.roundSig m q = 2 ^ F.precision ↔
        IsNearestEven ((m : ℚ) * 2 ^ q / F.ulp F.emax) (2 ^ F.precision) := by
      have hnear := F.isNearestEven_roundSig m q
      rw [h] at hnear
      exact ⟨fun hs => hs ▸ hnear, hnear.unique⟩
    rw [hsig, isNearestEven_carry_iff hx, le_div_iff₀ (F.ulp_pos _), F.threshold_eq]
    simp [h]
  · have hge := F.two_zpow_roundExp_le (q := q) hm (by omega)
    have hpow : (2 : ℚ) ^ (F.emax + 1) ≤ 2 ^ F.roundExp m q := zpow_le_zpow_right₀ one_le_two h
    exact iff_of_true (by linarith) (.inl h)

theorem packClass_of_threshold_le (hF : F.Interchange) (neg : Bool) (hm : m ≠ 0)
    (h : F.threshold ≤ m * 2 ^ q) : packClass F (.fin neg m q) = F.fields neg F.maxExp 0 := by
  obtain hover | ⟨htop, hcarry⟩ := (threshold_le_iff hF hm).mp h
  · exact packClass_of_lt_roundExp neg hover
  · rw [packClass_of_roundExp_le hF neg hm htop.le, htop, hcarry, hF.pattern_emax_carry]

/-- Below the threshold the pattern is finite: the pattern, the sign and the value of the rounding. -/
theorem packClass_of_lt_threshold (hF : F.Interchange) (neg : Bool) (hm : m ≠ 0)
    (h : (m : ℚ) * 2 ^ q < F.threshold) :
    packClass F (.fin neg m q) = F.pattern neg (F.roundExp m q) (F.roundSig m q) ∧
      (unpackBin F (packClass F (.fin neg m q))).sign = some neg ∧
      (unpackBin F (packClass F (.fin neg m q))).toRat =
        some ((if neg then -1 else 1) * (F.roundSig m q * F.ulp (F.roundExp m q))) := by
  obtain ⟨hle, hfin⟩ := not_or.mp (mt (threshold_le_iff hF hm).mpr (not_le.mpr h))
  have hpattern := packClass_of_roundExp_le hF neg hm (not_lt.mp hle)
  rw [hpattern]
  exact ⟨rfl, unpackBin_pattern_value hF neg (F.emin_le_roundExp m q) (not_lt.mp hle) (F.roundSig_le m q)
    (F.roundSig_normal hm) hfin⟩

/-! ### The nearest pattern (R252) -/

/-- A value the format holds at an exponent no less than `e` is a whole number of last places of `e`. -/
theorem exists_int_mul_ulp (neg : Bool) (n : Nat) {e e' : Int} (h : e ≤ e') :
    ∃ j : Int, (if neg then -1 else 1) * (n : ℚ) * 2 ^ (e' - F.fracBits) = j * F.ulp e := by
  obtain ⟨k, rfl⟩ := Int.le.dest h
  refine ⟨(if neg then -1 else 1) * (n * 2 ^ k), ?_⟩
  have hulp : (2 : ℚ) ^ (e + k - F.fracBits) = 2 ^ k * F.ulp e := by
    rw [F.two_pow_mul_ulp, add_comm e]
  rw [hulp]
  push_cast
  ring

/-- The rounding of a value is as near to it as any number of whole last places, and where another is equally
near the significand is even. -/
theorem rounding_nearest_of_multiple (j : Int) :
    |(m : ℚ) * 2 ^ q - F.roundSig m q * F.ulp (F.roundExp m q)| ≤
        |(m : ℚ) * 2 ^ q - j * F.ulp (F.roundExp m q)| ∧
      (|(m : ℚ) * 2 ^ q - F.roundSig m q * F.ulp (F.roundExp m q)| =
          |(m : ℚ) * 2 ^ q - j * F.ulp (F.roundExp m q)| →
        (j : ℚ) * F.ulp (F.roundExp m q) ≠ F.roundSig m q * F.ulp (F.roundExp m q) → Even (F.roundSig m q)) := by
  have hnear := F.isNearestEven_roundSig m q
  have hulp := F.ulp_pos (F.roundExp m q)
  generalize F.ulp (F.roundExp m q) = u at hnear hulp
  have hscale (y : ℚ) : |(m : ℚ) * 2 ^ q - y * u| = |m * 2 ^ q / u - y| * u := by
    rw [← abs_of_pos hulp, ← abs_mul, abs_of_pos hulp, sub_mul, div_mul_cancel₀ _ hulp.ne']
  rw [hscale, hscale, mul_le_mul_iff_left₀ hulp, mul_left_inj' hulp.ne']
  refine ⟨hnear.le j, fun htie hne => hnear.even_of_tie (fun hj => hne ?_) htie⟩
  rw [hj, Int.cast_natCast]

/-- A value the format holds at a lesser exponent than the rounding's is below the value's leading power of two,
which is nearer. -/
theorem rounding_nearer_of_small (hm : m ≠ 0) {e : Int} {n : Nat} (neg : Bool) (hn : F.Holds e n)
    (he : e < F.roundExp m q) :
    |(m : ℚ) * 2 ^ q - F.roundSig m q * F.ulp (F.roundExp m q)| <
      |(m : ℚ) * 2 ^ q - (if neg then -1 else 1) * n * 2 ^ (e - F.fracBits)| := by
  have hlead := F.two_zpow_roundExp_le (q := q) hm (by have := hn.emin_le; omega)
  have hnear := (rounding_nearest_of_multiple (F := F) (m := m) (q := q) (2 ^ F.fracBits)).1
  have hpow : ((2 ^ F.fracBits : Int) : ℚ) * F.ulp (F.roundExp m q) = 2 ^ F.roundExp m q := by
    rw [← F.lead_mul_ulp]; push_cast; rfl
  have hsmall : (n : ℚ) * 2 ^ (e - F.fracBits) < 2 ^ F.roundExp m q :=
    calc
      (n : ℚ) * 2 ^ (e - F.fracBits) < (2 ^ F.precision : Nat) * F.ulp e :=
        mul_lt_mul_of_pos_right (Nat.cast_lt.mpr hn.lt) (F.ulp_pos e)
      _ = 2 ^ (e + 1) := F.precision_mul_ulp e
      _ ≤ 2 ^ F.roundExp m q := zpow_le_zpow_right₀ one_le_two he
  have hnonneg : (0 : ℚ) ≤ n * 2 ^ (e - F.fracBits) := by positivity
  have hz : (if neg then -1 else 1) * (n : ℚ) * 2 ^ (e - F.fracBits) ≤ n * 2 ^ (e - F.fracBits) := by
    split
    · linarith
    · rw [one_mul]
  rw [hpow, abs_of_nonneg (sub_nonneg.mpr hlead)] at hnear
  refine hnear.trans_lt (lt_of_lt_of_le ?_ (le_abs_self _))
  linarith

/-- No value of the format is nearer to a value than its rounding, and where another is equally near the
significand is even. -/
theorem rounding_nearest (hm : m ≠ 0) {e : Int} {n : Nat} (neg : Bool) (hn : F.Holds e n) :
    |(m : ℚ) * 2 ^ q - F.roundSig m q * F.ulp (F.roundExp m q)| ≤
        |(m : ℚ) * 2 ^ q - (if neg then -1 else 1) * n * 2 ^ (e - F.fracBits)| ∧
      (|(m : ℚ) * 2 ^ q - F.roundSig m q * F.ulp (F.roundExp m q)| =
          |(m : ℚ) * 2 ^ q - (if neg then -1 else 1) * n * 2 ^ (e - F.fracBits)| →
        (if neg then -1 else 1) * (n : ℚ) * 2 ^ (e - F.fracBits) ≠ F.roundSig m q * F.ulp (F.roundExp m q) →
        Even (F.roundSig m q)) := by
  rcases le_or_gt (F.roundExp m q) e with h | h
  · obtain ⟨j, hj⟩ := exists_int_mul_ulp (F := F) neg n h
    rw [hj]
    exact rounding_nearest_of_multiple j
  · have hlt := rounding_nearer_of_small hm neg hn h
    exact ⟨hlt.le, fun htie => absurd htie hlt.ne⟩

/-- A sign on both sides, or on one, changes which side it stands on. -/
theorem abs_sign_mul_sub (neg : Bool) (a z : ℚ) :
    |(if neg then -1 else 1) * a - z| = |a - (if neg then -1 else 1) * z| := by
  cases neg
  · simp
  · rw [if_pos rfl, neg_one_mul, neg_one_mul, ← abs_neg]
    ring_nf

theorem sign_mul_sign (neg neg' : Bool) :
    (if neg then -1 else 1 : ℚ) * (if neg' then -1 else 1) = if neg ^^ neg' then -1 else 1 := by
  cases neg <;> cases neg' <;> norm_num

theorem sign_mul_self_mul (neg : Bool) (z : ℚ) :
    (if neg then -1 else 1 : ℚ) * ((if neg then -1 else 1) * z) = z := by
  rw [← mul_assoc, sign_mul_sign, Bool.xor_self, if_neg Bool.false_ne_true, one_mul]

/-- Settles O18: the threshold decides between infinity and the rounding, which is the nearest. -/
theorem packNearestEven : Obligations.PackNearestEven := by
  unfold Obligations.PackNearestEven
  intro F hrow neg m q hm
  have hF := BinaryFormat.interchange_of_row hrow
  refine ⟨packClass_of_threshold_le hF neg hm, fun hlt => ?_⟩
  obtain ⟨hpattern, hsign, hval⟩ := packClass_of_lt_threshold hF neg hm hlt
  refine ⟨hsign, _, hval, fun y z hz => ?_⟩
  obtain ⟨neg', e, n, hn, rfl⟩ := exists_holds_of_toRat hF hz
  have hz : (if neg then -1 else 1) * ((if neg' then -1 else 1) * (n : ℚ) * 2 ^ (e - F.fracBits)) =
      (if neg ^^ neg' then -1 else 1) * n * 2 ^ (e - F.fracBits) := by
    rw [← mul_assoc, ← mul_assoc, sign_mul_sign]
  obtain ⟨hle, htie⟩ := rounding_nearest (q := q) hm (neg ^^ neg') hn
  rw [hpattern, hF.even_pattern_iff, abs_sign_mul_sub, abs_sign_mul_sub, sign_mul_self_mul, hz]
  refine ⟨hle, fun heq hne => htie heq fun hv => hne ?_⟩
  rw [← hv, ← hz, sign_mul_self_mul]

end Sys2Proof.Machine

/-! SUPPORT. The thresholds of R265 for every binary format: infinity from half a last place below 2^(EMAX+1) on,
zero up to half the least subnormal, and the tie above it. -/

namespace Sys2Proof.Machine

variable {F : BinaryFormat} {m : Nat} {q : Int}

theorem unpackBin_inf (hF : F.Interchange) (neg : Bool) : unpackBin F (F.fields neg F.maxExp 0) = .inf neg := by
  rw [unpackBin_fields neg (by rw [hF.maxExp_eq, hF.two_pow_expBits]; omega) (Nat.two_pow_pos _), if_pos rfl,
    if_pos rfl]

theorem unpackBin_zero (hF : F.Interchange) (neg : Bool) : unpackBin F (F.fields neg 0 0) = .zero neg := by
  rw [unpackBin_fields neg (Nat.two_pow_pos _) (Nat.two_pow_pos _), hF.maxExp_eq, if_neg (by omega), if_pos rfl,
    if_pos rfl]

/-! ### Infinity -/

theorem packClass_eq_inf_iff (hF : F.Interchange) (neg : Bool) (hm : m ≠ 0) :
    packClass F (.fin neg m q) = F.fields neg F.maxExp 0 ↔ F.threshold ≤ m * 2 ^ q := by
  refine ⟨fun h => not_lt.mp fun hlt => ?_, packClass_of_threshold_le hF neg hm⟩
  obtain ⟨-, -, hval⟩ := packClass_of_lt_threshold hF neg hm hlt
  rw [h, unpackBin_inf hF] at hval
  cases hval

/-! ### The least subnormals -/

/-- A value below the least normal one is rounded at the least exponent. -/
theorem roundExp_of_lt (hm : m ≠ 0) (h : (m : ℚ) * 2 ^ q < 2 ^ F.emin) : F.roundExp m q = F.emin := by
  by_contra hne
  have hpow : (2 : ℚ) ^ F.emin ≤ 2 ^ F.roundExp m q := zpow_le_zpow_right₀ one_le_two (F.emin_le_roundExp m q)
  linarith [F.two_zpow_roundExp_le (q := q) hm hne]

/-- Below twice the least subnormal the pattern is the number of least subnormals the value is nearest to. -/
theorem packClass_of_nearest_least (hF : F.Interchange) (neg : Bool) (hm : m ≠ 0) {n : Nat}
    (hlt : (m : ℚ) * 2 ^ q < 2 * F.ulp F.emin) (hn : IsNearestEven (m * 2 ^ q / F.ulp F.emin) n) :
    packClass F (.fin neg m q) = F.fields neg 0 n := by
  have hb := hF.bias_pos
  have hlead : 2 * F.ulp F.emin ≤ 2 ^ F.emin := by
    rw [← F.lead_mul_ulp]
    gcongr
    · exact (F.ulp_pos _).le
    · exact_mod_cast Nat.pow_le_pow_right (n := 2) two_pos hF.frac_pos
  have hexp : F.roundExp m q = F.emin := roundExp_of_lt hm (hlt.trans_le hlead)
  have hle : F.roundExp m q ≤ F.emax := by rw [hexp, BinaryFormat.emin, BinaryFormat.emax]; omega
  have hsig := F.isNearestEven_roundSig m q
  rw [packClass_of_roundExp_le hF neg hm hle]
  rw [hexp] at hsig ⊢
  rw [hsig.unique hn, F.pattern_emin]

theorem packClass_eq_zero_iff (hF : F.Interchange) (neg : Bool) (hm : m ≠ 0) :
    packClass F (.fin neg m q) = F.fields neg 0 0 ↔ (m : ℚ) * 2 ^ q ≤ F.ulp F.emin / 2 := by
  have hu := F.ulp_pos F.emin
  have hpos : (0 : ℚ) < m * 2 ^ q := by positivity
  constructor
  · intro h
    have hlt : (m : ℚ) * 2 ^ q < F.threshold := by
      by_contra! hover
      have hinf := unpackBin_inf hF neg
      rw [← packClass_of_threshold_le hF neg hm hover, h, unpackBin_zero hF] at hinf
      cases hinf
    obtain ⟨hpattern, -, hval⟩ := packClass_of_lt_threshold hF neg hm hlt
    rw [h, unpackBin_zero hF, FloatClass.toRat, Option.some_inj, eq_comm, mul_eq_zero, mul_eq_zero,
      or_iff_right (by split <;> norm_num), or_iff_left (F.ulp_pos _).ne', Nat.cast_eq_zero] at hval
    have hexp := (F.roundSig_normal (q := q) hm).resolve_left (by rw [hval]; exact not_le.mpr (Nat.two_pow_pos _))
    have hnear := (abs_le.mp (F.isNearestEven_roundSig m q).1).2
    rw [hval, hexp, Nat.cast_zero, sub_zero, div_le_iff₀ hu] at hnear
    linarith
  · intro h
    have hx : (m : ℚ) * 2 ^ q / F.ulp F.emin ≤ 1 / 2 := by rw [div_le_iff₀ hu]; linarith
    refine packClass_of_nearest_least hF neg hm (by linarith) ⟨?_, fun _ => Even.zero⟩
    rwa [Nat.cast_zero, sub_zero, abs_of_pos (by positivity)]

theorem packClass_eq_least (hF : F.Interchange) (neg : Bool) (hm : m ≠ 0) (hlo : F.ulp F.emin / 2 < (m : ℚ) * 2 ^ q)
    (hhi : (m : ℚ) * 2 ^ q < 3 * (F.ulp F.emin / 2)) : packClass F (.fin neg m q) = F.fields neg 0 1 := by
  have hu := F.ulp_pos F.emin
  have hlo' : 1 / 2 < (m : ℚ) * 2 ^ q / F.ulp F.emin := by rw [lt_div_iff₀ hu]; linarith
  have hhi' : (m : ℚ) * 2 ^ q / F.ulp F.emin < 3 / 2 := by rw [div_lt_iff₀ hu]; linarith
  have hnear : |(m : ℚ) * 2 ^ q / F.ulp F.emin - (1 : Nat)| < 1 / 2 := by
    rw [abs_lt, Nat.cast_one]
    constructor <;> linarith
  exact packClass_of_nearest_least hF neg hm (by linarith) ⟨hnear.le, fun h => absurd h hnear.ne⟩

theorem packClass_eq_two_of_tie (hF : F.Interchange) (neg : Bool) (hm : m ≠ 0)
    (h : (m : ℚ) * 2 ^ q = 3 * (F.ulp F.emin / 2)) : packClass F (.fin neg m q) = F.fields neg 0 2 := by
  have hu := F.ulp_pos F.emin
  have hx : (m : ℚ) * 2 ^ q / F.ulp F.emin = 3 / 2 := by rw [div_eq_iff hu.ne']; linarith
  refine packClass_of_nearest_least hF neg hm (by linarith) ⟨?_, fun _ => even_two⟩
  rw [hx]
  norm_num

/-! ### The thresholds of R265 -/

theorem threshold_binary16 : binary16.threshold = 65520 := by
  norm_num [BinaryFormat.threshold, BinaryFormat.emax, BinaryFormat.precision, binary16]

theorem threshold_binary32 : binary32.threshold = 2 ^ 128 - 2 ^ 103 := by
  norm_num [BinaryFormat.threshold, BinaryFormat.emax, BinaryFormat.precision, binary32]

theorem ulp_emin_binary16 : binary16.ulp binary16.emin = 2 * 2 ^ (-25 : Int) := by
  norm_num [BinaryFormat.ulp, BinaryFormat.emin, binary16]

theorem ulp_emin_binary32 : binary32.ulp binary32.emin = 2 * 2 ^ (-150 : Int) := by
  norm_num [BinaryFormat.ulp, BinaryFormat.emin, binary32]

theorem ne_zero_of_doubleClass {d : Word64} {neg : Bool} (h : doubleClass d = .fin neg m q) : m ≠ 0 :=
  (holds_of_unpackBin BinaryFormat.interchange_binary64 h).2.1

/-- Settles O19: the thresholds of each format, in its own least subnormal. -/
theorem encodeThresholds : Obligations.EncodeThresholds := by
  unfold Obligations.EncodeThresholds
  refine ⟨fun layout d neg m q hd => ?_, ?_, ?_⟩
  · have hm := ne_zero_of_doubleClass hd
    have h16 : floatEncode layout .f16 d = packClass binary16 (.fin neg m q) := hd ▸ rfl
    have h32 : floatEncode layout .f32 d = packClass binary32 (.fin neg m q) := hd ▸ rfl
    have hF := BinaryFormat.interchange_binary16
    have hG := BinaryFormat.interchange_binary32
    rw [h16, h32]
    refine ⟨?_, ?_, fun hlo hhi => packClass_eq_least hF neg hm ?_ ?_, fun h => packClass_eq_two_of_tie hF neg hm ?_,
      ?_, ?_⟩
    · rw [← threshold_binary16]
      exact packClass_eq_inf_iff hF neg hm
    · rw [packClass_eq_zero_iff hF neg hm, ulp_emin_binary16, mul_div_cancel_left₀ _ two_ne_zero]
    · rwa [ulp_emin_binary16, mul_div_cancel_left₀ _ two_ne_zero]
    · rwa [ulp_emin_binary16, mul_div_cancel_left₀ _ two_ne_zero]
    · rwa [ulp_emin_binary16, mul_div_cancel_left₀ _ two_ne_zero]
    · rw [← threshold_binary32]
      exact packClass_eq_inf_iff hG neg hm
    · rw [packClass_eq_zero_iff hG neg hm, ulp_emin_binary32, mul_div_cancel_left₀ _ two_ne_zero]
  · have h : unpackBin binary16 0x7BFF = .fin false 2047 5 := by decide
    rw [h]
    norm_num [FloatClass.toRat]
  · have h : unpackBin binary32 0x7F7FFFFF = .fin false (2 ^ 24 - 1) 104 := by decide
    rw [h]
    norm_num [FloatClass.toRat]

end Sys2Proof.Machine

/-! SUPPORT. Where rounding is exact (spec/42_float.md R257, R266, R267): a format holds every value of a narrower
one, a pattern unpacked and packed is itself, and a packing depends on the sign and the rational value alone. -/

namespace Sys2Proof.Machine

variable {F G : BinaryFormat} {m : Nat} {q : Int}

/-! ### Classes that are not finite (R255, R256) -/

theorem unpackBin_packClass_nan (hF : F.Interchange) : unpackBin F (packClass F .nan) = .nan := by
  have hlt : 2 ^ (F.fracBits - 1) < 2 ^ F.fracBits :=
    Nat.pow_lt_pow_right (by decide) (Nat.sub_one_lt hF.frac_pos.ne')
  have htop : F.maxExp < 2 ^ F.expBits := by rw [hF.maxExp_eq, hF.two_pow_expBits]; omega
  rw [packClass, canonicalNaN, unpackBin_fields false htop hlt, if_pos rfl, if_neg (Nat.two_pow_pos _).ne']

theorem unpackBin_packClass_inf (hF : F.Interchange) (neg : Bool) :
    unpackBin F (packClass F (.inf neg)) = .inf neg := unpackBin_inf hF neg

theorem unpackBin_packClass_zero (hF : F.Interchange) (neg : Bool) :
    unpackBin F (packClass F (.zero neg)) = .zero neg := unpackBin_zero hF neg

/-! ### Values the format holds -/

/-- Where the last place of the rounding is no greater than the value's own, nothing is rounded away. -/
theorem roundSig_mul_ulp_of_exact (h : F.roundExp m q - F.fracBits ≤ q) :
    F.roundSig m q * F.ulp (F.roundExp m q) = m * 2 ^ q := by
  obtain ⟨k, hk⟩ := Int.le.dest h
  have hsig : F.roundSig m q = m * 2 ^ k := by
    refine rne_of_exact ?_
    rw [show q - (F.roundExp m q - F.fracBits) = (k : Int) by omega]
    push_cast
    rfl
  have hpow : (2 : ℚ) ^ q = 2 ^ k * F.ulp (F.roundExp m q) := by
    rw [BinaryFormat.ulp, ← zpow_natCast, ← zpow_add₀ two_ne_zero, add_comm, hk]
  rw [hsig, hpow]
  push_cast
  ring

/-- A value of at most P bits, within the format's range, packs to a pattern of the same value. -/
theorem same_unpackBin_packClass_fin (hF : F.Interchange) (neg : Bool) (hm : m ≠ 0) (hbits : m.log2 ≤ F.fracBits)
    (hlo : F.emin - F.fracBits ≤ q) (hhi : (m.log2 : Int) + q ≤ F.emax) :
    (unpackBin F (packClass F (.fin neg m q))).Same (.fin neg m q) := by
  have hb := hF.bias_pos
  have hexact : F.roundSig m q * F.ulp (F.roundExp m q) = m * 2 ^ q :=
    roundSig_mul_ulp_of_exact (by rw [BinaryFormat.roundExp]; omega)
  have hle : F.roundExp m q ≤ F.emax := by
    rw [BinaryFormat.roundExp, BinaryFormat.emin, BinaryFormat.emax] at *; omega
  have hsig : F.roundSig m q ≠ 2 ^ F.precision := by
    intro hcarry
    rw [hcarry, F.precision_mul_ulp] at hexact
    exact (F.lt_two_zpow_roundExp (q := q) hm).ne' hexact
  have hlt : (m : ℚ) * 2 ^ q < F.threshold := not_le.mp (mt (threshold_le_iff hF hm).mp (by omega))
  obtain ⟨-, hsign, hval⟩ := packClass_of_lt_threshold hF neg hm hlt
  refine ⟨hsign, hval.trans ?_⟩
  rw [hexact, ← mul_assoc]
  rfl

theorem BinaryFormat.Holds.log2_le {e : Int} {n : Nat} (h : F.Holds e n) : n.log2 ≤ F.fracBits := by
  by_cases h0 : n = 0
  · simp [h0]
  · exact Nat.lt_succ_iff.mp ((Nat.log2_lt h0).mpr h.lt)

/-- A format holds every value of a format with a fraction and a bias no greater than its own (R257, R266). -/
theorem same_unpackBin_packClass (hF : F.Interchange) (hG : G.Interchange) (hfrac : G.fracBits ≤ F.fracBits)
    (hbias : G.bias ≤ F.bias) (x : Nat) :
    (unpackBin F (packClass F (unpackBin G x))).Same (unpackBin G x) := by
  cases hx : unpackBin G x with
  | nan => rw [unpackBin_packClass_nan hF]; exact ⟨rfl, rfl⟩
  | inf neg => rw [unpackBin_packClass_inf hF]; exact ⟨rfl, rfl⟩
  | zero neg => rw [unpackBin_packClass_zero hF]; exact ⟨rfl, rfl⟩
  | fin neg m q =>
    obtain ⟨hholds, hm, -⟩ := holds_of_unpackBin hG hx
    have hbits := hholds.log2_le
    obtain ⟨hlo, hhi, -, -⟩ := hholds
    rw [BinaryFormat.emin] at hlo
    rw [BinaryFormat.emax] at hhi
    refine same_unpackBin_packClass_fin hF neg hm (by omega) ?_ ?_
    · rw [BinaryFormat.emin]; omega
    · rw [BinaryFormat.emax]; omega

/-! ### Doubles (R257) -/

theorem doubleClass_toDouble (c : FloatClass) :
    doubleClass (toDouble c) = unpackBin binary64 (packClass binary64 c) := by
  have hlt : packClass binary64 c < 2 ^ 64 := packClass_lt binary64 (by decide) (by decide) c
  rw [doubleClass, toDouble, BitVec.toNat_ofNat, Nat.mod_eq_of_lt hlt]

/-- Settles O20: binary64 holds every value of binary16 and of binary32. -/
theorem halfSingleDecodeExact : Obligations.HalfSingleDecodeExact := by
  unfold Obligations.HalfSingleDecodeExact
  intro layout x
  rw [floatDecode, floatDecode, doubleClass_toDouble, doubleClass_toDouble]
  exact ⟨same_unpackBin_packClass BinaryFormat.interchange_binary64 BinaryFormat.interchange_binary16 (by decide)
      (by decide) x,
    same_unpackBin_packClass BinaryFormat.interchange_binary64 BinaryFormat.interchange_binary32 (by decide)
      (by decide) x⟩

/-! ### A pattern unpacked and packed (R267) -/

/-- A significand that the format holds at an exponent is rounded at that exponent. -/
theorem BinaryFormat.Holds.roundExp_eq (h : F.Holds (q + F.fracBits) m) (hm : m ≠ 0) :
    F.roundExp m q = q + F.fracBits := by
  have hbits := h.log2_le
  obtain ⟨hlo, -, -, hnormal⟩ := h
  rw [roundExp]
  rcases hnormal with hlead | hleast
  · have hlog : F.fracBits ≤ m.log2 := (Nat.le_log2 hm).mpr hlead
    omega
  · omega

theorem fields_of_unpackBin_inf {x : Nat} {neg : Bool} (h : unpackBin F x = .inf neg) :
    F.fields neg F.maxExp 0 = x % 2 ^ (F.expBits + F.fracBits + 1) := by
  obtain ⟨neg', e, f, he, hf, hx, hpattern⟩ := exists_fields F x
  rw [hx, unpackBin_fields neg' he hf] at h
  rw [← hpattern]
  split_ifs at h with htop hf0 he0 hf0
  all_goals cases h
  rw [htop, hf0]

theorem fields_of_unpackBin_zero {x : Nat} {neg : Bool} (h : unpackBin F x = .zero neg) :
    F.fields neg 0 0 = x % 2 ^ (F.expBits + F.fracBits + 1) := by
  obtain ⟨neg', e, f, he, hf, hx, hpattern⟩ := exists_fields F x
  rw [hx, unpackBin_fields neg' he hf] at h
  rw [← hpattern]
  split_ifs at h with htop hf0 he0 hf0
  all_goals cases h
  rw [he0, hf0]

/-- A pattern that is no NaN is what its class packs to. -/
theorem packClass_unpackBin (hF : F.Interchange) {x : Nat} (hx : unpackBin F x ≠ .nan) :
    packClass F (unpackBin F x) = x % 2 ^ (F.expBits + F.fracBits + 1) := by
  cases hcl : unpackBin F x with
  | nan => exact absurd hcl hx
  | inf neg => exact fields_of_unpackBin_inf hcl
  | zero neg => exact fields_of_unpackBin_zero hcl
  | fin neg m q =>
    obtain ⟨hholds, hm, hpattern⟩ := holds_of_unpackBin hF hcl
    have hexp := hholds.roundExp_eq hm
    have hsig : F.roundSig m q = m := rne_of_exact (by rw [hexp]; simp)
    rw [packClass_of_roundExp_le hF neg hm (hexp ▸ hholds.le_emax), hexp, hsig, hpattern]

theorem toDouble_doubleClass {d : Word64} (hd : doubleClass d ≠ .nan) : toDouble (doubleClass d) = d := by
  rw [toDouble, doubleClass, packClass_unpackBin BinaryFormat.interchange_binary64 hd]
  rw [show d.toNat % 2 ^ (binary64.expBits + binary64.fracBits + 1) = d.toNat from Nat.mod_eq_of_lt d.isLt,
    BitVec.ofNat_toNat, BitVec.setWidth_eq]

/-! ### What a packing depends on -/

/-- The significand of a finite class is not 0. -/
def FloatClass.Proper : FloatClass → Prop
  | .fin _ m _ => m ≠ 0
  | _ => True

theorem proper_unpackBin (hF : F.Interchange) (x : Nat) : (unpackBin F x).Proper := by
  cases hx : unpackBin F x with
  | fin neg m q => exact (holds_of_unpackBin hF hx).2.1
  | nan | inf | zero => trivial

theorem FloatClass.toRat_fin_ne_zero (neg : Bool) (hm : m ≠ 0) : (FloatClass.fin neg m q).toRat ≠ some 0 := by
  have hpos : (0 : ℚ) < m * 2 ^ q := by positivity
  rw [toRat, mul_assoc, ne_eq, Option.some_inj, mul_eq_zero, not_or]
  exact ⟨by split <;> norm_num, hpos.ne'⟩

/-- Two classes of the same sign and value are the same, or are the same finite value written in two ways. -/
theorem FloatClass.Same.eq_or_fin {a b : FloatClass} (h : a.Same b) (ha : a.Proper) (hb : b.Proper) :
    a = b ∨ ∃ neg m q m' q', m ≠ 0 ∧ m' ≠ 0 ∧ a = .fin neg m q ∧ b = .fin neg m' q' ∧
      (m : ℚ) * 2 ^ q = m' * 2 ^ q' := by
  obtain ⟨hsign, hval⟩ := h
  cases a with
  | nan =>
    cases b with
    | nan => exact .inl rfl
    | inf | zero | fin => cases hsign
  | inf neg =>
    cases b with
    | inf neg' => cases hsign; exact .inl rfl
    | nan => cases hsign
    | zero | fin => cases hval
  | zero neg =>
    cases b with
    | zero neg' => cases hsign; exact .inl rfl
    | nan => cases hsign
    | inf => cases hval
    | fin neg' m' q' => exact absurd hval.symm (toRat_fin_ne_zero neg' hb)
  | fin neg m q =>
    cases b with
    | nan => cases hsign
    | inf => cases hval
    | zero neg' => exact absurd hval (toRat_fin_ne_zero neg ha)
    | fin neg' m' q' =>
      cases hsign
      rw [toRat, toRat, Option.some_inj, mul_assoc, mul_assoc] at hval
      exact .inr ⟨neg, m, q, m', q', ha, hb, rfl, rfl, mul_left_cancel₀ (by split <;> norm_num) hval⟩

/-- A packing depends on the sign and the value of the class alone, not on how the value is written. -/
theorem packClass_congr (F : BinaryFormat) {a b : FloatClass} (h : a.Same b) (ha : a.Proper) (hb : b.Proper) :
    packClass F a = packClass F b := by
  obtain rfl | ⟨neg, m, q, m', q', hm, hm', rfl, rfl, hval⟩ := h.eq_or_fin ha hb
  · rfl
  · have hexp : F.roundExp m q = F.roundExp m' q' := by
      rw [BinaryFormat.roundExp, BinaryFormat.roundExp, log2_add_eq_log hm, log2_add_eq_log hm', hval]
    have hsig : F.roundSig m q = F.roundSig m' q' := by
      have hnear := F.isNearestEven_roundSig m q
      rw [hexp, hval] at hnear
      exact hnear.unique (F.isNearestEven_roundSig m' q')
    rw [packClass, packClass, roundFmt_eq, roundFmt_eq, hexp, hsig]

end Sys2Proof.Machine

/-! SUPPORT. The 10-byte float under both layouts (spec/42_float.md R258 to R262): its value formulas, the exact
encode of every double, and the decode of an encode. -/

namespace Sys2Proof.Machine

/-! ### The fields of a 10-byte pattern (R258) -/

/-- The widths of the fields of R258. -/
def extended80 : BinaryFormat := { expBits := 15, fracBits := 64, bias := 16383 }

theorem fields80_eq (neg : Bool) (e m : Nat) : fields80 neg e m = extended80.fields neg e m := rfl

theorem fields80_significand (neg : Bool) (e : Nat) {m : Nat} (hm : m < 2 ^ 64) : fields80 neg e m % 2 ^ 64 = m := by
  rw [fields80_eq]
  exact extended80.fields_fraction neg hm

section
variable (neg : Bool) {e m : Nat} (he : e < 2 ^ 15) (hm : m < 2 ^ 64)
include he hm

theorem fields80_sign : (fields80 neg e m).testBit 79 = neg := by
  rw [fields80_eq]
  exact extended80.fields_sign neg he hm

theorem fields80_exponent : fields80 neg e m / 2 ^ 64 % 2 ^ 15 = e := by
  rw [fields80_eq]
  exact extended80.fields_exponent neg he hm

/-- Dec80_X87 by the fields (R259). -/
theorem dec80_x87_fields80 :
    dec80 .x87 (fields80 neg e m) =
      if e = 0x7FFF then (if m = 0x8000000000000000 then .inf neg else .nan)
      else if m = 0 then .zero neg
      else .fin neg m ((if e = 0 then 1 else (e : Int)) - 16383 - 63) := by
  rw [dec80, dec80X87, fields80_sign neg he hm, fields80_exponent neg he hm, fields80_significand neg e hm]

/-- Dec80_IMP by the fields (R260). -/
theorem dec80_implicit_fields80 :
    dec80 .implicit (fields80 neg e m) =
      if e = 0x7FFF then (if m = 0 then .inf neg else .nan)
      else if e = 0 then (if m = 0 then .zero neg else .fin neg m (1 - 16383 - 64))
      else .fin neg (2 ^ 64 + m) ((e : Int) - 16383 - 64) := by
  rw [dec80, dec80Implicit, fields80_sign neg he hm, fields80_exponent neg he hm, fields80_significand neg e hm]

end

/-- Settles O21: each case of the fields under each layout. -/
theorem float80Decode : Obligations.Float80Decode := by
  unfold Obligations.Float80Decode
  intro neg e m he hm
  rw [dec80_x87_fields80 neg he hm, dec80_implicit_fields80 neg he hm]
  refine ⟨fun htop hinf => ?_, fun htop hnan => ?_, fun htop h0 => ?_, fun htop h0 => ?_, fun htop h0 => ?_,
    fun htop h0 => ?_, fun hzero h0 => ?_, fun hzero h0 => ?_, fun hzero htop => ?_, fun layout => rfl⟩
  · rw [if_pos htop, if_pos hinf]
  · rw [if_pos htop, if_neg hnan]
  · rw [if_neg htop, if_pos h0]
  · rw [if_neg htop, if_neg h0]
    have hmax : (if e = 0 then 1 else (e : Int)) = (max e 1 : Nat) := by split <;> omega
    rw [hmax]
    exact ⟨rfl, rfl⟩
  · rw [if_pos htop, if_pos h0]
  · rw [if_pos htop, if_neg h0]
  · rw [hzero, if_neg (by decide), if_pos rfl, if_pos h0]
  · rw [hzero, if_neg (by decide), if_pos rfl, if_neg h0]
    exact ⟨rfl, rfl⟩
  · rw [if_neg htop, if_neg hzero]
    exact ⟨rfl, by rw [FloatClass.toRat]; push_cast; rfl⟩

/-! ### The encode of a double (R261, R262) -/

/-- A significand moved up so that its leading bit is bit `n` has that bit. -/
theorem le_mul_two_pow_sub_log2 {m : Nat} (hm : m ≠ 0) {n : Nat} (h : m.log2 ≤ n) :
    2 ^ n ≤ m * 2 ^ (n - m.log2) :=
  calc
    2 ^ n = 2 ^ m.log2 * 2 ^ (n - m.log2) := by rw [← pow_add, Nat.add_sub_cancel' h]
    _ ≤ m * 2 ^ (n - m.log2) := Nat.mul_le_mul_right _ (Nat.log2_self_le hm)

/-- It is the value, counted in units of bit 0. -/
theorem cast_mul_two_pow_sub_log2 (m : Nat) (q : Int) {n : Nat} (h : m.log2 ≤ n) :
    ((m * 2 ^ (n - m.log2) : Nat) : ℚ) = m * 2 ^ q * 2 ^ ((n : Int) - (m.log2 + q)) := by
  rw [mul_assoc, ← zpow_add₀ two_ne_zero, show q + ((n : Int) - (m.log2 + q)) = (n - m.log2 : Nat) by omega]
  push_cast
  rfl

/-- The exponent of a finite double lies between that of the least subnormal and EMAX (R251). -/
theorem doubleClass_exponent {d : Word64} {neg : Bool} {m : Nat} {q : Int} (h : doubleClass d = .fin neg m q) :
    -1074 ≤ (m.log2 : Int) + q ∧ (m.log2 : Int) + q ≤ 1023 := by
  obtain ⟨hholds, -, -⟩ := holds_of_unpackBin BinaryFormat.interchange_binary64 h
  have hbits := hholds.log2_le
  obtain ⟨hlo, hhi, -, -⟩ := hholds
  simp only [binary64, BinaryFormat.emin, BinaryFormat.emax] at hbits hlo hhi
  omega

/-- Settles O22: E is log2 m + q, and M is the significand moved up to bit 63 or, less its leading bit, to
bit 64. -/
theorem float80Encode : Obligations.Float80Encode := by
  unfold Obligations.Float80Encode
  intro d
  rw [floatEncode, floatEncode]
  refine ⟨fun h => ?_, fun neg h => ?_, fun neg h => ?_, fun neg m q h => ?_⟩
  · rw [h]; exact ⟨rfl, rfl⟩
  · rw [h]; exact ⟨rfl, rfl⟩
  · rw [h]; exact ⟨rfl, rfl⟩
  · have hm := ne_zero_of_doubleClass h
    obtain ⟨hlo, hhi⟩ := doubleClass_exponent h
    have hbits : m.log2 < 53 := (doubleClass_bounds h).1
    have hle63 := le_mul_two_pow_sub_log2 hm (show m.log2 ≤ 63 by omega)
    have hlt63 := mul_two_pow_sub_log2_lt m 63 (by omega)
    have hle64 := le_mul_two_pow_sub_log2 hm (show m.log2 ≤ 64 by omega)
    have hlt64 := mul_two_pow_sub_log2_lt m 64 (by omega)
    have hmx := cast_mul_two_pow_sub_log2 m q (show m.log2 ≤ 63 by omega)
    have hmi := cast_mul_two_pow_sub_log2 m q (show m.log2 ≤ 64 by omega)
    refine ⟨m.log2 + q, _, _, _, two_zpow_log2_le hm q, lt_two_zpow_log2 hm q, ?_, ?_, ?_, ?_, ?_, ?_, hmx, ?_,
      by rw [h]; rfl, by rw [h]; rfl⟩
    · exact Int.toNat_of_nonneg (by omega)
    · omega
    · omega
    · exact hlt63
    · exact Nat.testBit_of_two_pow_le_and_two_pow_add_one_gt hle63 hlt63
    · omega
    · rw [Nat.cast_sub hle64, hmi]
      push_cast
      rfl

/-! ### The decode of an encode (R266, R267) -/

theorem dec80_enc80_nan (layout : Float80Layout) : dec80 layout (enc80 layout .nan) = .nan := by
  cases layout with
  | x87 =>
    rw [enc80, enc80X87, dec80_x87_fields80 false (by decide) (by decide), if_pos rfl, if_neg (by decide)]
  | implicit =>
    rw [enc80, enc80Implicit, dec80_implicit_fields80 false (by decide) (by decide), if_pos rfl, if_neg (by decide)]

theorem dec80_enc80_inf (layout : Float80Layout) (neg : Bool) :
    dec80 layout (enc80 layout (.inf neg)) = .inf neg := by
  cases layout with
  | x87 => rw [enc80, enc80X87, dec80_x87_fields80 neg (by decide) (by decide), if_pos rfl, if_pos rfl]
  | implicit =>
    rw [enc80, enc80Implicit, dec80_implicit_fields80 neg (by decide) (by decide), if_pos rfl, if_pos rfl]

theorem dec80_enc80_zero (layout : Float80Layout) (neg : Bool) :
    dec80 layout (enc80 layout (.zero neg)) = .zero neg := by
  cases layout with
  | x87 => rw [enc80, enc80X87, dec80_x87_fields80 neg (by decide) (by decide), if_neg (by decide), if_pos rfl]
  | implicit =>
    rw [enc80, enc80Implicit, dec80_implicit_fields80 neg (by decide) (by decide), if_neg (by decide), if_pos rfl,
      if_pos rfl]

/-- The value formula of either layout undoes the scaling of the encode. -/
theorem same_dec80_enc80_fin (layout : Float80Layout) {d : Word64} {neg : Bool} {m : Nat} {q : Int}
    (h : doubleClass d = .fin neg m q) :
    (dec80 layout (floatEncode layout .f80 d)).Same (.fin neg m q) := by
  obtain ⟨-, -, -, hfin⟩ := float80Encode d
  obtain ⟨E, e, mx, mi, -, -, he, helo, hehi, hmx, hbit, hmi, hmxVal, hmiVal, hx87, himplicit⟩ := hfin neg m q h
  have hscale (k : Int) : (m : ℚ) * 2 ^ q * 2 ^ (k - E) * 2 ^ ((e : Int) - 16383 - k) = m * 2 ^ q := by
    rw [mul_assoc, ← zpow_add₀ two_ne_zero, show k - E + ((e : Int) - 16383 - k) = 0 by omega, zpow_zero, mul_one]
  cases layout with
  | x87 =>
    have hmx0 : mx ≠ 0 := by rintro rfl; simp at hbit
    obtain ⟨-, -, -, hval, -⟩ := float80Decode neg e mx (by omega) hmx
    obtain ⟨hsign, hrat⟩ := hval (by omega) hmx0
    rw [hx87]
    refine ⟨hsign, hrat.trans ?_⟩
    rw [hmxVal, max_eq_left (by omega), mul_assoc, hscale, FloatClass.toRat, mul_assoc]
  | implicit =>
    obtain ⟨-, -, -, -, -, -, -, -, hval, -⟩ := float80Decode neg e mi (by omega) hmi
    obtain ⟨hsign, hrat⟩ := hval (by omega) (by omega)
    rw [himplicit]
    refine ⟨hsign, hrat.trans ?_⟩
    rw [hmiVal, add_sub_cancel, mul_assoc, hscale, FloatClass.toRat, mul_assoc]

/-- The decode of the encode of a double has the double's class: its sign and its value. -/
theorem same_dec80_enc80 (layout : Float80Layout) (d : Word64) :
    (dec80 layout (floatEncode layout .f80 d)).Same (doubleClass d) := by
  cases hcl : doubleClass d with
  | nan => rw [floatEncode, hcl, dec80_enc80_nan]; exact ⟨rfl, rfl⟩
  | inf neg => rw [floatEncode, hcl, dec80_enc80_inf]; exact ⟨rfl, rfl⟩
  | zero neg => rw [floatEncode, hcl, dec80_enc80_zero]; exact ⟨rfl, rfl⟩
  | fin neg m q => exact same_dec80_enc80_fin layout hcl

theorem proper_dec80 (layout : Float80Layout) (x : Nat) : (dec80 layout x).Proper := by
  cases layout with
  | x87 =>
    rw [dec80, dec80X87]
    split_ifs with htop hinf hm he
    · trivial
    · trivial
    · trivial
    · exact hm
    · exact hm
  | implicit =>
    rw [dec80, dec80Implicit]
    split_ifs with htop hinf he hm
    · trivial
    · trivial
    · trivial
    · exact hm
    · exact (Nat.add_pos_left (Nat.two_pow_pos _) _).ne'

/-- Decode after encode is the identity on the doubles that are no NaN, under both layouts (R267). -/
theorem floatDecode_floatEncode_f80 (layout : Float80Layout) {d : Word64} (hd : doubleClass d ≠ .nan) :
    floatDecode layout .f80 (floatEncode layout .f80 d) = d := by
  have hpack := packClass_congr binary64 (same_dec80_enc80 layout d) (proper_dec80 layout _)
    (proper_unpackBin BinaryFormat.interchange_binary64 _)
  rw [floatDecode, toDouble, hpack]
  exact toDouble_doubleClass hd

/-! ### NaN, infinity, zero and overflow (R255, R256) -/

theorem doubleClass_toDouble_inf (neg : Bool) : doubleClass (toDouble (.inf neg)) = .inf neg := by
  rw [doubleClass_toDouble, unpackBin_packClass_inf BinaryFormat.interchange_binary64]

theorem doubleClass_toDouble_zero (neg : Bool) : doubleClass (toDouble (.zero neg)) = .zero neg := by
  rw [doubleClass_toDouble, unpackBin_packClass_zero BinaryFormat.interchange_binary64]

/-- Settles O24, by evaluation and by the decode of the 10-byte patterns. -/
theorem canonicalNaNs : Obligations.CanonicalNaNs := by
  unfold Obligations.CanonicalNaNs
  exact ⟨by decide, by decide, by decide, by decide, rfl, rfl, dec80_enc80_nan .x87, dec80_enc80_nan .implicit⟩

/-- Settles O23: each direction packs or unpacks the class itself. -/
theorem specialValues : Obligations.SpecialValues := by
  unfold Obligations.SpecialValues
  have hF := BinaryFormat.interchange_binary16
  have hG := BinaryFormat.interchange_binary32
  have hnan : toDouble .nan = 0x7FF8000000000000#64 := canonicalNaNs.1
  intro layout
  refine ⟨fun x h => ?_, fun x h => ?_, fun x h => ?_, fun d h => ?_, fun d => ⟨rfl, ?_⟩, fun x neg => ?_,
    fun d neg => ⟨fun h => ?_, fun h => ?_⟩, fun d neg m q h => ⟨fun hover => ?_, fun hover => ?_⟩⟩
  · rw [floatDecode, h, hnan]
  · rw [floatDecode, h, hnan]
  · rw [floatDecode, h, hnan]
  · rw [floatEncode, floatEncode, floatEncode, h]
    refine ⟨by decide, by decide, ?_, ?_⟩ <;> (rintro rfl; rfl)
  · rw [floatDecode, BitVec.ofNat_toNat, BitVec.setWidth_eq]
  · rw [floatDecode, floatDecode, floatDecode]
    refine ⟨fun h => ?_, fun h => ?_, fun h => ?_, fun h => ?_, fun h => ?_, fun h => ?_⟩ <;> rw [h]
    · exact doubleClass_toDouble_inf neg
    · exact doubleClass_toDouble_zero neg
    · exact doubleClass_toDouble_inf neg
    · exact doubleClass_toDouble_zero neg
    · exact doubleClass_toDouble_inf neg
    · exact doubleClass_toDouble_zero neg
  · rw [floatEncode, floatEncode, floatEncode, h]
    exact ⟨unpackBin_packClass_inf hF neg, unpackBin_packClass_inf hG neg, dec80_enc80_inf layout neg⟩
  · rw [floatEncode, floatEncode, floatEncode, h]
    exact ⟨unpackBin_packClass_zero hF neg, unpackBin_packClass_zero hG neg, dec80_enc80_zero layout neg⟩
  · rw [← threshold_binary16] at hover
    rw [floatEncode, h, packClass_of_threshold_le hF neg (ne_zero_of_doubleClass h) hover, unpackBin_inf hF]
  · rw [← threshold_binary32] at hover
    rw [floatEncode, h, packClass_of_threshold_le hG neg (ne_zero_of_doubleClass h) hover, unpackBin_inf hG]

end Sys2Proof.Machine

/-! SUPPORT. A float `put` then a `get`, and a `get` then a `put` of RESULT (spec/42_float.md R267): what the window
spells between the two commands, and when BUF is as it was. -/

namespace Sys2Proof.Machine

/-! ### Windows that spell the same (R13) -/

theorem windowValue_lt (order : ByteOrder) (m : Memory) (o n : Nat) : windowValue order m o n < 2 ^ (8 * n) := by
  have h := assemble_lt order (m.readBytes o n)
  rwa [assemble_readBytes, Memory.length_readBytes] at h

/-- A window's bytes are those of the integer it spells. -/
theorem readBytes_eq_split (order : ByteOrder) (m : Memory) (o n : Nat) :
    m.readBytes o n = split order (windowValue order m o n) n := by
  have h := split_assemble order (m.readBytes o n)
  rw [assemble_readBytes, Memory.length_readBytes] at h
  exact h.symm

/-- Two buffers with the same bytes outside a window, in which they spell the same integer, are the same. -/
theorem SameBufOutside.sameBuf {o n : Nat} {s t : State} (h : SameBufOutside o n s t) (order : ByteOrder)
    (hwindow : windowValue order t.buf o n = windowValue order s.buf o n) : SameBuf s t := by
  intro a
  by_cases ha : a < o ∨ o + n ≤ a
  · exact h a ha
  · obtain ⟨k, rfl⟩ := Nat.exists_eq_add_of_le (show o ≤ a by omega)
    have hk : k < n := by omega
    have hbytes : t.buf.readBytes o n = s.buf.readBytes o n := by
      rw [readBytes_eq_split order, readBytes_eq_split order, hwindow]
    have hbyte := congrArg (·[k]?) hbytes
    simpa [Memory.getElem?_readBytes _ _ _ _ hk] using hbyte

/-! ### A pattern decoded and encoded (R267) -/

/-- A pattern of a format no wider than binary64, made a double and packed again, is its class packed. -/
theorem packClass_toDouble_unpackBin {F : BinaryFormat} (hF : F.Interchange)
    (hfrac : F.fracBits ≤ binary64.fracBits) (hbias : F.bias ≤ binary64.bias) (x : Nat) :
    packClass F (doubleClass (toDouble (unpackBin F x))) = packClass F (unpackBin F x) := by
  rw [doubleClass_toDouble]
  exact packClass_congr F (same_unpackBin_packClass BinaryFormat.interchange_binary64 hF hfrac hbias x)
    (proper_unpackBin BinaryFormat.interchange_binary64 _) (proper_unpackBin hF x)

theorem floatEncode_floatDecode_f16 (layout : Float80Layout) (x : Nat) :
    floatEncode layout .f16 (floatDecode layout .f16 x) = packClass binary16 (unpackBin binary16 x) :=
  packClass_toDouble_unpackBin BinaryFormat.interchange_binary16 (by decide) (by decide) x

theorem floatEncode_floatDecode_f32 (layout : Float80Layout) (x : Nat) :
    floatEncode layout .f32 (floatDecode layout .f32 x) = packClass binary32 (unpackBin binary32 x) :=
  packClass_toDouble_unpackBin BinaryFormat.interchange_binary32 (by decide) (by decide) x

theorem floatEncode_floatDecode_f64 (layout : Float80Layout) {x : Nat} (hx : x < 2 ^ 64) :
    floatEncode layout .f64 (floatDecode layout .f64 x) = x := by
  rw [floatEncode, floatDecode, BitVec.toNat_ofNat, Nat.mod_eq_of_lt hx]

theorem packClass_unpackBin_of_lt {F : BinaryFormat} (hF : F.Interchange) {x : Nat}
    (hlt : x < 2 ^ (F.expBits + F.fracBits + 1)) (hx : unpackBin F x ≠ .nan) : packClass F (unpackBin F x) = x :=
  (packClass_unpackBin hF hx).trans (Nat.mod_eq_of_lt hlt)

/-! ### The commands (R267) -/

/-- Settles O27: the `get` decodes the pattern that the `put` left in the window. -/
theorem floatPutThenGet : Obligations.FloatPutThenGet := by
  unfold Obligations.FloatPutThenGet
  intro i j s c f order hi hj hitok hjtok hc hfits hnan
  obtain ⟨t, d, hput, hd, hframe, -, hwindow, -⟩ := floatPutResult i s c f order (.inl hi) hitok hc hfits
  have hd' : t.units[t.active]? = some d := hframe.active ▸ hd
  have hfits' : d.offset + f.bytes ≤ d.bufSize := by rw [hframe.offset, hframe.bufSize]; exact hfits
  obtain ⟨t', d', hget, hunit, -, -, -, hrtag, hresult, -⟩ := floatGetResult j t d f order hj hjtok hd' hfits'
  rw [hframe.offset, hframe.params, hwindow] at hresult
  refine ⟨t, t', d', _, hput, hget, hframe.active ▸ hunit, hrtag, hresult, ?_, ?_, ?_⟩
  · rintro (rfl | rfl)
    · rw [floatDecode, floatEncode, BitVec.ofNat_toNat, BitVec.setWidth_eq]
    · exact floatDecode_floatEncode_f80 _ hnan
  · rintro rfl
    exact (halfSingleDecodeExact _ _).1
  · rintro rfl
    exact (halfSingleDecodeExact _ _).2

/-- A double in VALUE is read back from its low 64 bits (R250). -/
theorem extractLsb'_setWidth (r : Word64) : (r.setWidth 66).extractLsb' 0 64 = r := by
  ext k hk
  simp [show k < 66 by omega, BitVec.getLsbD_eq_getElem hk]

/-- A float `get`, then a `put` of its RESULT with a token of the same format at the same offset: the window spells
the encode of the decode of what it spelt, and no other byte has changed. -/
theorem exec_float_get_then_put {i j : Instr} {s : State} {c : CodecUnit} {f : FloatFormat} {order : ByteOrder}
    (hi : i.op = .get) (hj : j.op = .put) (hitok : i.token = .float f order) (hjtok : j.token = .float f order)
    (hc : s.units[s.active]? = some c) (hfits : c.offset + f.bytes ≤ c.bufSize) :
    ∃ t d r t', exec i s = .next t ∧ t.units[s.active]? = some d ∧ d.result = some r ∧
      exec j (t.setUnit s.active { d with value := r.setWidth 66 }) = .next t' ∧
      SameBufOutside c.offset f.bytes s t' ∧
      windowValue order t'.buf c.offset f.bytes =
        floatEncode s.params.layout f
          (floatDecode s.params.layout f (windowValue order s.buf c.offset f.bytes)) := by
  obtain ⟨t, d, hget, hd, hframe, hbuf, -, -, hresult, -⟩ := floatGetResult i s c f order hi hitok hc hfits
  generalize floatDecode s.params.layout f (windowValue order s.buf c.offset f.bytes) = r at hresult ⊢
  have hunit : (t.setUnit s.active { d with value := r.setWidth 66 }).units[t.active]? =
      some { d with value := r.setWidth 66 } := by
    rw [hframe.active]
    exact t.setUnit_same _ _ d hd
  obtain ⟨t', -, hput, -, -, -, hwindow, houtside⟩ :=
    floatPutResult j _ _ f order (.inl hj) hjtok hunit
      (show d.offset + f.bytes ≤ d.bufSize by rw [hframe.offset, hframe.bufSize]; exact hfits)
  rw [extractLsb'_setWidth, State.setUnit_params, hframe.params] at hwindow
  dsimp only at hwindow houtside
  rw [hframe.offset] at hwindow houtside
  exact ⟨t, d, r, t', hget, hd, hresult, hput, fun a ha => (houtside a ha).trans (hbuf a), hwindow⟩

/-- Settles O28: the window spells the pattern it spelt, or the canonical NaN. -/
theorem floatGetThenPut : Obligations.FloatGetThenPut := by
  unfold Obligations.FloatGetThenPut
  intro i j s c f order hi hj hitok hjtok hc hfits _
  obtain ⟨t, d, r, t', hget, hd, hresult, hput, houtside, hwindow⟩ :=
    exec_float_get_then_put hi hj hitok hjtok hc hfits
  have hlt := windowValue_lt order s.buf c.offset f.bytes
  refine ⟨t, d, r, t', hget, hd, hresult, hput, houtside, ?_, ?_, ?_, ?_, ?_⟩
  · rintro rfl
    exact houtside.sameBuf order (hwindow.trans (floatEncode_floatDecode_f64 _ hlt))
  · rintro rfl hnan
    rw [floatEncode_floatDecode_f16] at hwindow
    exact houtside.sameBuf order
      (hwindow.trans (packClass_unpackBin_of_lt BinaryFormat.interchange_binary16 hlt hnan))
  · rintro rfl hnan
    rw [floatEncode_floatDecode_f16] at hwindow
    exact hwindow.trans (by rw [FloatFormat.bytes, hnan]; rfl)
  · rintro rfl hnan
    rw [floatEncode_floatDecode_f32] at hwindow
    exact houtside.sameBuf order
      (hwindow.trans (packClass_unpackBin_of_lt BinaryFormat.interchange_binary32 hlt hnan))
  · rintro rfl hnan
    rw [floatEncode_floatDecode_f32] at hwindow
    exact hwindow.trans (by rw [FloatFormat.bytes, hnan]; rfl)

end Sys2Proof.Machine

/-! SUPPORT. The span, span-copy and ignore gets, the views the host holds, and a view beside a copy of the same
window (spec/43_span.md R330 to R334). -/

namespace Sys2Proof.Machine

/-! ### A `get` of LEN bytes (R330, R332, R333) -/

/-- A token that does not read its window answers the same whatever the window holds. -/
theorem getResponse_of_not_readsWindow (layout : Float80Layout) {tok : Token} (h : tok.readsWindow = false)
    (o n : Nat) (bs bs' : List Byte) : getResponse layout tok o n bs = getResponse layout tok o n bs' := by
  cases tok with
  | span | ignore => rfl
  | int | float | spanCopy => cases h

section
variable {i : Instr} {s : State} {c : CodecUnit}

theorem planOf_get_of_misfit (layout : Float80Layout) (hi : i.op = .get) (hlen : i.token.usesLen = true → c.len ≠ 0)
    (hmiss : c.bufSize < c.offset + i.token.length c.len) : planOf layout i c = .fail .outOfBounds := by
  rw [planOf_get layout i c hi]
  obtain ⟨huses, hzero, -⟩ | ⟨-, ⟨-, h⟩ | ⟨hfits, -⟩⟩ := getPlan_cases layout i.token c
  · exact absurd hzero (hlen huses)
  · exact h
  · omega

/-- A `get` that passes its checks responds, whether its token reads the window or not. -/
theorem unitAfter_get_of_fits (hi : i.op = .get) (hlen : i.token.usesLen = true → c.len ≠ 0)
    (hfits : c.offset + i.token.length c.len ≤ c.bufSize) :
    (planOf s.params.layout i c).unitAfter s c =
      c.respond (getResponse s.params.layout i.token c.offset (i.token.length c.len)
        (s.buf.readBytes c.offset (i.token.length c.len))) := by
  rw [planOf_get _ i c hi]
  obtain ⟨huses, hzero, -⟩ | ⟨-, ⟨hmiss, -⟩ | ⟨-, ⟨-, h⟩ | ⟨hskips, h⟩⟩⟩ := getPlan_cases s.params.layout i.token c
  · exact absurd hzero (hlen huses)
  · omega
  · rw [h, Plan.unitAfter]
  · rw [h, Plan.unitAfter, getResponse_of_not_readsWindow _ hskips]

/-- The three outcomes of a `get` whose token takes LEN. None of them touches BUF. -/
theorem exec_get_of_usesLen (hi : i.op = .get) (huses : i.token.usesLen = true) (hc : s.units[s.active]? = some c) :
    ∃ t d, exec i s = .next t ∧ t.units[s.active]? = some d ∧ SameBuf s t ∧
      (c.len = 0 → d.Answers .illegalCommand noFields ∧ Frame s.active s t { c with flushAck := false } d) ∧
      (c.len ≠ 0 → c.bufSize < c.offset + c.len → d.Answers .outOfBounds noFields ∧
        Frame s.active s t { c with flushAck := false } d) ∧
      (c.len ≠ 0 → c.offset + c.len ≤ c.bufSize → Frame s.active s t c d ∧
        d.Answers .ok
          (getResponse s.params.layout i.token c.offset c.len (s.buf.readBytes c.offset c.len))) := by
  obtain ⟨pl, hpl⟩ : ∃ pl, planOf s.params.layout i c = pl := ⟨_, rfl⟩
  have hreads : pl.ReadsOnly := hpl ▸ planOf_get s.params.layout i c hi ▸ getPlan_readsOnly _ _ c
  have hlength := i.token.length_of_usesLen c.len huses
  obtain ⟨hexec, hunit⟩ := exec_of_plan hc hpl
  have hframe := s.carryOut_frame s.active c pl
  refine ⟨_, _, hexec, hunit, fun a => by rw [State.carryOut_buf, hreads.bufAfter], fun hzero => ?zero,
    fun hlen hmiss => ?misfit, fun hlen hfits => ?fits⟩
  case zero =>
    obtain rfl := hpl.symm.trans (planOf_of_zeroLength _ i c huses hzero)
    exact ⟨c.answers_raise _, hframe⟩
  case misfit =>
    obtain rfl := hpl.symm.trans (planOf_get_of_misfit _ hi (fun _ => hlen) (hlength.symm ▸ hmiss))
    exact ⟨c.answers_raise _, hframe⟩
  case fits =>
    have hresponds := unitAfter_get_of_fits (s := s) hi (fun _ => hlen) (hlength.symm ▸ hfits)
    rw [hpl, hlength] at hresponds
    rw [hresponds] at hframe ⊢
    exact ⟨hframe, c.answers_respond _⟩

end

/-- Settles O29: the three outcomes at the token SPAN. -/
theorem spanGet : Obligations.SpanGet := by
  unfold Obligations.SpanGet
  exact ⟨rfl, fun s c hc => exec_get_of_usesLen (i := .spanGet) rfl rfl hc⟩

/-- Settles O31: the three outcomes at the token IGNORE. -/
theorem ignoreGet : Obligations.IgnoreGet := by
  unfold Obligations.IgnoreGet
  exact ⟨rfl, fun s c hc => exec_get_of_usesLen (i := .ignoreGet) rfl rfl hc⟩

/-- Settles O30: the three outcomes at the token SPANCOPY; RDATA is `MemRead` of the window, and a move that is not
of the unit leaves the unit. -/
theorem spanCopyGet : Obligations.SpanCopyGet := by
  unfold Obligations.SpanCopyGet
  refine ⟨rfl, fun s c hc => ?_⟩
  obtain ⟨t, d, hexec, hd, hbuf, hzero, hmisfit, hfit⟩ := exec_get_of_usesLen (i := .spanCopyGet) rfl rfl hc
  refine ⟨t, d, hexec, hd, hbuf, hzero, hmisfit, fun hlen hfits => ?_⟩
  obtain ⟨hframe, hanswers⟩ := hfit hlen hfits
  refine ⟨hframe, ⟨s.buf.readBytes c.offset c.len, Memory.length_readBytes .., fun k hk => ?_, hanswers⟩,
    fun m t' hm ht' => ⟨d, (runMove_other hm ht').trans hd, rfl⟩⟩
  exact s.buf.getElem?_readBytes c.offset c.len k hk

/-! ### The views the host holds (R331) -/

/-- A unit that answers a view has it for the host to take. -/
theorem CodecUnit.Answers.view? {d : CodecUnit} {e : Status} {r : Response} {base : Word64} {n : Nat}
    (h : d.Answers e r) (htag : r.rtag = .view) (hresult : r.result = some base) (hrlen : r.rlen = some n) :
    d.view? = some { base := base.toNat, len := n } := by
  obtain ⟨-, htag', hresult', hrlen', -⟩ := h
  simp [CodecUnit.view?, htag', hresult', hrlen', htag, hresult, hrlen]

theorem hostTakeView_of_view {u : Nat} {s : State} {c : CodecUnit} {v : SpanView} (hc : s.units[u]? = some c)
    (hv : c.view? = some v) : hostTakeView u s = .next { s with views := s.views ++ [v] } := by
  simp [hostTakeView, hc, hv]

/-- A `SPAN.get` that fits, then the taking of the view: the host holds one view more, that of the window. OFFSET is
the base because it has at most 64 bits, as RESULT has. -/
theorem hostTakeView_after_spanGet {s : State} {c : CodecUnit} (hc : s.units[s.active]? = some c) (hlen : c.len ≠ 0)
    (hfits : c.offset + c.len ≤ c.bufSize) (h64 : c.offset < 2 ^ 64) :
    ∃ t t' d, exec .spanGet s = .next t ∧ hostTakeView s.active t = .next t' ∧ t'.units[s.active]? = some d ∧
      SameBuf s t' ∧
      Frame s.active { s with views := s.views ++ [{ base := c.offset, len := c.len }] } t' c d := by
  obtain ⟨t, d, hexec, hd, hbuf, -, -, hfit⟩ := exec_get_of_usesLen (i := .spanGet) rfl rfl hc
  obtain ⟨hframe, hanswers⟩ := hfit hlen hfits
  have hbase : (BitVec.ofNat 64 c.offset).toNat = c.offset :=
    (BitVec.toNat_ofNat c.offset 64).trans (Nat.mod_eq_of_lt h64)
  have hview := hanswers.view? rfl rfl rfl
  rw [hbase] at hview
  exact ⟨t, _, d, hexec, hostTakeView_of_view hd hview, hd, hbuf,
    { hframe with views := congrArg (· ++ _) hframe.views }⟩

@[simp] theorem State.takeOff_views (s : State) (u : Nat) (c : CodecUnit) (pl : Plan) :
    (s.takeOff u c pl).views = s.views := by cases pl <;> rfl

theorem issue_views {u : Nat} {s t : State} (h : issue u s = .next t) : t.views = s.views := by
  obtain ⟨c, -, -, rfl⟩ := issue_next u s t h
  simp

theorem resume_views {u : Nat} {s t : State} (h : resume u s = .next t) : t.views = s.views := by
  obtain ⟨c, -, rfl | ⟨k, -, -, rfl⟩⟩ := resume_next u s t h
  · rfl
  · simp

/-- Only the taking of a view touches the list of views. -/
theorem runMove_views {m : Move} {s t : State} (hm : ∀ u, m ≠ .takeView u) (ht : runMove m s = .next t) :
    t.views = s.views := by
  cases m with
  | takeView u => exact absurd rfl (hm u)
  | writeReg u w =>
    obtain ⟨c, -, -, -, rfl⟩ := hostWriteReg_next u w s t ht
    rfl
  | readReg u r =>
    obtain ⟨-, -, -, -, rfl⟩ := hostReadReg_next u r s t ht
    rfl
  | issue u => exact issue_views ht
  | begin u =>
    obtain ⟨-, hissue⟩ | ⟨-, c, -, -, rfl⟩ := beginSplit_next u s t ht
    · exact issue_views hissue
    · simp
  | access u k =>
    obtain ⟨c, -, rfl | ⟨tok, o, got, -, -, rfl⟩ | ⟨base, o, bs, todo, b, -, -, -, rfl⟩⟩ := accessByte_next u k s t ht
    · rfl
    · rfl
    · rfl
  | finish u =>
    obtain ⟨c, -, rfl | ⟨f, r, -, -, rfl⟩⟩ := finishSplit_next u s t ht
    · rfl
    · rfl
  | resume u => exact resume_views ht
  | resumeSplit u =>
    obtain ⟨-, hresume⟩ | ⟨-, c, -, rfl | ⟨k, -, -, rfl⟩⟩ := resumeSplit_next u s t ht
    · exact resume_views hresume
    · rfl
    · simp
  | reset u =>
    obtain ⟨-, rfl⟩ := resetUnit_next u s t ht
    rfl
  | bufRead a =>
    obtain ⟨-, rfl⟩ := hostBufRead_next a s t ht
    rfl
  | bufWrite a b =>
    obtain ⟨-, rfl⟩ := hostBufWrite_next a b s t ht
    rfl
  | viewRead v i =>
    obtain ⟨-, -, -, rfl⟩ := hostViewRead_next v i s t ht
    rfl
  | viewWrite v i b =>
    obtain ⟨-, -, -, rfl⟩ := hostViewWrite_next v i b s t ht
    rfl

/-- No move takes a view away or changes one: the taking of a view adds it at the end. -/
theorem runMove_views_append {m : Move} {s t : State} (ht : runMove m s = .next t) :
    ∃ vs, t.views = s.views ++ vs := by
  by_cases hm : ∃ u, m = .takeView u
  · obtain ⟨u, rfl⟩ := hm
    obtain ⟨-, v, -, -, rfl⟩ := hostTakeView_next u s t ht
    exact ⟨[v], rfl⟩
  · exact ⟨[], by rw [runMove_views (fun u h => hm ⟨u, h⟩) ht, List.append_nil]⟩

/-- A view the host holds stays as it is under every move. -/
theorem runMove_keeps_view {m : Move} {s t : State} {v : Nat} {w : SpanView} (hw : s.views[v]? = some w)
    (ht : runMove m s = .next t) : t.views[v]? = some w := by
  obtain ⟨rest, hrest⟩ := runMove_views_append ht
  obtain ⟨hlt, -⟩ := List.getElem?_eq_some_iff.mp hw
  rw [hrest, List.getElem?_append_left hlt, hw]

section
variable {s : State} {v i : Nat} {w : SpanView}

theorem hostViewRead_of_lt (hw : s.views[v]? = some w) (hi : i < w.len) :
    hostViewRead v i s = .next { s with seen := some (.unsigned (s.buf.read (w.base + i)).toNat) } :=
  HostReadsByte.run (.inr ⟨v, i, w, rfl, hw, hi, rfl⟩)

theorem hostViewWrite_of_lt (x : Byte) (hw : s.views[v]? = some w) (hi : i < w.len) :
    hostViewWrite v i x s = .next (s.setBuf (s.buf.write (w.base + i) x)) :=
  HostWritesByte.run (.inr ⟨v, i, w, rfl, hw, hi, rfl⟩)

theorem hostViewRead_of_le (hw : s.views[v]? = some w) (hi : w.len ≤ i) :
    hostViewRead v i s = .refused .viewIndex := by
  simp [hostViewRead, hw, hi]

theorem hostViewWrite_of_le (x : Byte) (hw : s.views[v]? = some w) (hi : w.len ≤ i) :
    hostViewWrite v i x s = .refused .viewIndex := by
  simp [hostViewWrite, hw, hi]

end

/-- Settles O56: the view is taken, its accesses are those of the byte of BUF it names, and no move changes it. -/
theorem viewAccess : Obligations.ViewAccess := by
  unfold Obligations.ViewAccess
  refine ⟨fun s c hc hlen hfits h64 => ?taken, fun s v i x w hw => ⟨fun hi => ⟨?read, ?write⟩, fun hi => ?beyond⟩,
    fun m s t v w hw ht => runMove_keeps_view hw ht⟩
  case taken =>
    obtain ⟨t, t', _, hexec, htake, -, hbuf, hframe⟩ := hostTakeView_after_spanGet hc hlen hfits h64
    exact ⟨t, t', hexec, htake, hbuf, hframe.views⟩
  case read => exact ⟨_, hostViewRead_of_lt hw hi, rfl, fun _ => rfl, rfl⟩
  case write =>
    exact ⟨_, hostViewWrite_of_lt x hw hi, s.buf.read_write_same _ x, sameBufOutside_write s _ x, rfl⟩
  case beyond => exact ⟨hostViewRead_of_le hw hi, hostViewWrite_of_le x hw hi⟩

/-! ### A view beside a copy (R334) -/

/-- A run of moves that are not of unit `u` leaves the unit and the views the host holds. -/
theorem runMoves_keeps_unit_and_view {ms : List Move} {s t : State} {u v : Nat} {d : CodecUnit} {w : SpanView}
    (hms : ∀ m ∈ ms, m.unit? ≠ some u) (hd : s.units[u]? = some d) (hw : s.views[v]? = some w)
    (ht : runMoves ms s = .next t) : t.units[u]? = some d ∧ t.views[v]? = some w := by
  refine runMoves_induction (P := fun r => r.units[u]? = some d ∧ r.views[v]? = some w) ?_ ⟨hd, hw⟩ ht
  rintro m hm r r' ⟨hunit, hview⟩ hrun
  exact ⟨(runMove_other (hms m hm) hrun).trans hunit, runMove_keeps_view hview hrun⟩

/-- Settles O57: the copy is the window as it stood at the commands, the view reads the window as it stands. -/
theorem viewAgreesWithCopy : Obligations.ViewAgreesWithCopy := by
  unfold Obligations.ViewAgreesWithCopy
  intro s c hc hlen hfits h64
  obtain ⟨t, t', e, hspan, htake, he, -, hframe⟩ := hostTakeView_after_spanGet hc hlen hfits h64
  have hactive : t'.active = s.active := hframe.active
  obtain ⟨t'', d, hcopy, hd, hbuf, -, -, hfit⟩ :=
    exec_get_of_usesLen (i := .spanCopyGet) rfl rfl (hactive.symm ▸ he)
  rw [hactive, hframe.offset, hframe.len, hframe.bufSize] at hfit
  rw [hactive] at hd
  obtain ⟨hframe', -, -, -, -, hrdata, -⟩ := hfit hlen hfits
  refine ⟨t, t', t'', d, t'.buf.readBytes c.offset c.len, hspan, htake, hcopy, hd, hrdata,
    Memory.length_readBytes .., fun ms z hms hrun => ?_⟩
  have hheld : t''.views[s.views.length]? = some { base := c.offset, len := c.len } := by
    rw [hframe'.views, hframe.views, List.getElem?_concat_length]
  obtain ⟨hunit, hview⟩ := runMoves_keeps_unit_and_view hms hd hheld hrun
  refine ⟨hunit, fun i hi => ⟨_, _, hostViewRead_of_lt hview hi, t'.buf.getElem?_readBytes _ _ i hi, rfl, ?_⟩⟩
  rw [hbuf, Option.some_inj, HostDatum.unsigned.injEq, BitVec.toNat_inj]

end Sys2Proof.Machine

/-! SUPPORT. The checks of a command in their order and the errors they give (spec/40_contract.md R131, R137, R140;
60_exceptions.md R342 to R347), and what a move never changes (60_exceptions.md R352, R359). -/

namespace Sys2Proof.Machine

/-! ### The range check (R163, R343) -/

/-- No token that takes LEN has an encode (30_encoding.md R104). -/
theorem usesLen_of_encode {i : Instr} (hi : i.op = .put ∨ i.op = .putf) : i.token.usesLen = false := by
  cases i with
  | len | spanGet | spanCopyGet | ignoreGet => rcases hi with hi | hi <;> cases hi
  | _ => rfl

/-- Only an integer outside its token's domain is OUT_OF_RANGE: every double has an encode (R250). -/
theorem encodeBytes_outOfRange_iff (layout : Float80Layout) (tok : Token) (v : ValueWord) :
    encodeBytes layout tok v = .error .outOfRange ↔
      ∃ sg w order, tok = .int sg w order ∧ (v.toInt < intLo sg w ∨ intHi sg w < v.toInt) := by
  cases tok with
  | int sg w order =>
    by_cases hout : v.toInt < intLo sg w ∨ intHi sg w < v.toInt
    · exact iff_of_true (if_pos hout) ⟨sg, w, order, rfl, hout⟩
    · refine iff_of_false (fun h => ?_) ?_
      · cases (if_neg hout).symm.trans h
      · rintro ⟨_, _, _, ⟨⟩, hout'⟩
        exact hout hout'
  | float | span | spanCopy | ignore => simp [encodeBytes]

theorem badValue_iff (layout : Float80Layout) (i : Instr) (v : ValueWord) :
    BadValue i v ↔ (i.op = .put ∨ i.op = .putf) ∧ encodeBytes layout i.token v = .error .outOfRange := by
  rw [encodeBytes_outOfRange_iff, BadValue]

/-- An encode whose value passes the range check has its bytes. -/
theorem exists_encodeBytes (layout : Float80Layout) {i : Instr} {v : ValueWord} (hi : i.op = .put ∨ i.op = .putf)
    (hgood : ¬BadValue i v) : ∃ bs, encodeBytes layout i.token v = .ok bs := by
  have huses := usesLen_of_encode hi
  cases htok : i.token with
  | int sg w order => exact ⟨_, if_neg fun hout => hgood ⟨hi, sg, w, order, htok, hout⟩⟩
  | float f order => exact ⟨_, rfl⟩
  | span | spanCopy | ignore => simp [htok, Token.usesLen] at huses

/-! ### What each check decides (R342) -/

section
variable {i : Instr} {s t : State} {u : Nat} {c d : CodecUnit}

/-- OUT_OF_RANGE comes before the bounds check, and from the range check alone. -/
theorem planOf_outOfRange_iff (layout : Float80Layout) (i : Instr) (c : CodecUnit) :
    planOf layout i c = .fail .outOfRange ↔ BadValue i c.value := by
  rw [badValue_iff layout]
  cases hi : i.op <;> simp only [planOf, hi]
  case get =>
    obtain ⟨-, -, h⟩ | ⟨-, ⟨-, h⟩ | ⟨-, ⟨-, h⟩ | ⟨-, h⟩⟩⟩ := getPlan_cases layout i.token c <;> simp [h]
  case put =>
    obtain ⟨e, he, h⟩ | ⟨bs, hbs, -, ⟨-, h⟩ | ⟨-, h⟩⟩ := putPlan_cases layout i.token c <;> simp [*]
  case putf =>
    obtain ⟨e, he, h⟩ | ⟨bs, hbs, -, ⟨-, h⟩ | ⟨-, -, h⟩ | ⟨-, -, h⟩⟩ := putfPlan_cases layout i.token c <;>
      simp [*]
  case length =>
    obtain ⟨-, -, h⟩ | ⟨-, h⟩ := lengthPlan_cases i.token c <;> simp [h]

theorem planOf_put_of_misfit (layout : Float80Layout) (hi : i.op = .put) (hgood : ¬BadValue i c.value)
    (hmiss : c.bufSize < c.offset + i.token.length c.len) : planOf layout i c = .fail .outOfBounds := by
  obtain ⟨bs, hbs⟩ := exists_encodeBytes layout (.inl hi) hgood
  simp [planOf, hi, putPlan, hbs, (fits_eq_false ..).mpr hmiss]

theorem planOf_putf_of_noCallback (layout : Float80Layout) (hi : i.op = .putf) (hgood : ¬BadValue i c.value)
    (hcb : c.flushCb = false) (hmiss : c.bufSize < c.offset + i.token.length c.len) :
    planOf layout i c = .fail .noFlushCallback := by
  obtain ⟨bs, hbs⟩ := exists_encodeBytes layout (.inr hi) hgood
  simp [planOf, hi, putfPlan, hbs, (fits_eq_false ..).mpr hmiss, hcb]

/-- A `get` or `put` that fails the bounds check and no check before it. -/
theorem planOf_of_outOfBounds (layout : Float80Layout) (hi : i.op = .get ∨ i.op = .put)
    (hlen : i.token.usesLen = true → c.len ≠ 0) (hgood : ¬BadValue i c.value)
    (hmiss : c.bufSize < c.offset + i.token.length c.len) : planOf layout i c = .fail .outOfBounds := by
  rcases hi with hi | hi
  · exact planOf_get_of_misfit layout hi hlen hmiss
  · exact planOf_put_of_misfit layout hi hgood hmiss

/-- A command that fails no check responds. -/
theorem unitAfter_of_passes (s : State) (hwf : i.token.wellFormed = true) (hlen : i.token.usesLen = true → c.len ≠ 0)
    (hgood : ¬BadValue i c.value) (hfits : i.op = .length ∨ c.offset + i.token.length c.len ≤ c.bufSize) :
    ∃ r, (planOf s.params.layout i c).unitAfter s c = c.respond r := by
  have hencode (hi : i.op = .put ∨ i.op = .putf) (hfits : c.offset + i.token.length c.len ≤ c.bufSize) :
      ∃ r, (planOf s.params.layout i c).unitAfter s c = c.respond r := by
    obtain ⟨bs, hbs⟩ := exists_encodeBytes s.params.layout hi hgood
    have hlength := (encodeBytes_ok _ _ _ bs c.len hbs).2
    exact ⟨_, by rw [planOf_encode_of_fits hi hbs (hlength ▸ hfits), Plan.unitAfter]⟩
  cases hi : i.op with
  | get => exact ⟨_, unitAfter_get_of_fits hi hlen (hfits.resolve_left (by simp [hi]))⟩
  | put => exact hencode (.inl hi) (hfits.resolve_left (by simp [hi]))
  | putf => exact hencode (.inr hi) (hfits.resolve_left (by simp [hi]))
  | length =>
    have hplan : planOf s.params.layout i c = planOf s.params.layout (.len i.token) c := by
      simp only [planOf, hi]
      rfl
    exact ⟨_, by rw [hplan, planOf_len_of_legal _ _ hwf hlen, Plan.unitAfter]⟩

/-! ### A command that fails (R137, R344) -/

/-- A unit shows an error after its plan only where the plan is that error. -/
theorem Plan.eq_fail_of_error {pl : Plan} (hidle : (pl.unitAfter s c).unitState = .idle)
    (herror : (pl.unitAfter s c).status ≠ .ok) : pl = .fail (pl.unitAfter s c).status := by
  cases pl with
  | fail e => rfl
  | now | read | write => exact absurd rfl herror
  | flush k => cases hidle

/-- A plan that fails raises its error and leaves everything else. -/
theorem exec_of_fail {e : Status} (hc : s.units[s.active]? = some c) (hpl : planOf s.params.layout i c = .fail e) :
    ∃ t d, exec i s = .next t ∧ t.units[s.active]? = some d ∧ d.Answers e noFields ∧
      Frame s.active s t { c with flushAck := false } d ∧ SameBuf s t := by
  obtain ⟨hexec, hunit⟩ := exec_of_plan hc hpl
  exact ⟨_, _, hexec, hunit, c.answers_raise e, s.carryOut_frame s.active c (.fail e), fun _ => rfl⟩

end

/-- Settles O34: the plan of a window that leaves BUF, for a `get` and for a `put`. -/
theorem outOfBounds : Obligations.OutOfBounds := by
  unfold Obligations.OutOfBounds
  intro i s c hi hc hlen hgood hmiss
  rw [← Token.usesLen_iff] at hlen
  exact exec_of_fail hc (planOf_of_outOfBounds _ hi hlen hgood hmiss)

/-- Settles O35: the command ends with OUT_OF_RANGE exactly where that is its plan. -/
theorem outOfRange : Obligations.OutOfRange := by
  unfold Obligations.OutOfRange
  intro i s c hc
  have hplan := planOf_outOfRange_iff s.params.layout i c
  by_cases hbad : BadValue i c.value
  · obtain ⟨t, d, hexec, hunit, hanswers, hrest⟩ := exec_of_fail hc (hplan.mpr hbad)
    obtain ⟨hstatus, -, -, -, -, -, -, hidle, -⟩ := id hanswers
    exact ⟨t, d, hexec, hunit, iff_of_true ⟨hidle, hstatus⟩ hbad, fun _ => ⟨hanswers, hrest⟩⟩
  · obtain ⟨hexec, hunit⟩ := exec_of_plan (i := i) hc rfl
    refine ⟨_, _, hexec, hunit, iff_of_false (fun ⟨hidle, hstatus⟩ => hbad (hplan.mp ?_)) hbad, fun h => absurd h hbad⟩
    exact hstatus ▸ Plan.eq_fail_of_error hidle (by simp [hstatus])

/-- Settles O36: the plan is an error, and a unit that raises one is idle. -/
theorem noFlushCallback : Obligations.NoFlushCallback := by
  unfold Obligations.NoFlushCallback
  intro i s c hi hc hgood hcb hmiss
  obtain ⟨t, d, hexec, hunit, hanswers, hframe, hbuf⟩ :=
    exec_of_fail hc (planOf_putf_of_noCallback _ hi hgood hcb hmiss)
  obtain ⟨-, -, -, -, -, -, -, hidle, -⟩ := id hanswers
  exact ⟨t, d, hexec, hunit, hanswers, hframe, hbuf,
    fun hflight => d.notIssuable_none.mpr ⟨hidle, hframe.flight.trans hflight⟩⟩

/-! ### An issue and its checks (R342) -/

section
variable {i : Instr} {s t : State} {u : Nat} {c d : CodecUnit}

theorem decode_of_decodeCmd {w : CommandWord} {len : Nat} (h : decodeCmd w len = .ok i) :
    decode w = .ok i ∧ (i.token.usesLen = true → len ≠ 0) := by
  cases hd : decode w with
  | error e => cases (decodeCmd_of_error hd len).symm.trans h
  | ok j =>
    by_cases hzero : j.token.usesLen = true ∧ len = 0
    · obtain ⟨huses, rfl⟩ := hzero
      cases (decodeCmd_of_zeroLength hd huses).symm.trans h
    · obtain rfl := Except.ok.inj ((decodeCmd_of_ok hd len hzero).symm.trans h)
      exact ⟨rfl, fun huses hlen => hzero ⟨huses, hlen⟩⟩

theorem wellFormed_of_decode {w : CommandWord} (h : decode w = .ok i) : i.token.wellFormed = true :=
  i.wellFormed_eq ▸ ((decodeIffEncode w i).mp h).1

theorem commandPlan_of_decode (layout : Float80Layout) (h : decode c.cmd = .ok i) :
    commandPlan layout c = planOf layout i c := by
  simp [commandPlan, h]

/-- Where a command can be issued, its issue gives a next state, and the unit is what its plan leaves. -/
theorem issue_of_plan {pl : Plan} (hc : s.units[u]? = some c) (hissuable : c.notIssuable = none)
    (hpl : commandPlan s.params.layout { c with flushAck := false } = pl) :
    issue u s = .next ((s.latch u c).carryOut u { c with flushAck := false } pl) ∧
      ((s.latch u c).carryOut u { c with flushAck := false } pl).units[u]? =
        some (pl.unitAfter (s.latch u c) { c with flushAck := false }) :=
  ⟨hpl ▸ issue_of_unit u s c hc hissuable, State.carryOut_unit _ u _ _ pl (State.setUnit_same s u _ c hc)⟩

/-- The host acknowledges a waiting unit and step 2 ends its command, with FLUSH_NO_ROOM or as a success (R140). -/
theorem acknowledge_then_resume {k : FlushContext} (hd : t.units[u]? = some d) (hwait : d.unitState = .flushWait)
    (hk : d.ctx = some k) :
    ∃ t₁ t₂ d₂, hostWriteReg u (.flushAck true) t = .next t₁ ∧ resume u t₁ = .next t₂ ∧
      t₂.units[u]? = some d₂ ∧ d₂.unitState = .idle ∧
      (k.bufSize < k.bytes.length → d₂.status = .flushNoRoom) ∧
      (k.bytes.length ≤ k.bufSize → d₂.status = .ok) := by
  have hwrite := hostWriteReg_of_allowed hd (.flushAck true) rfl (.inr rfl)
  have hack : (t.setUnit u (d.write (.flushAck true))).units[u]? = some (d.write (.flushAck true)) :=
    t.setUnit_same u _ d hd
  have hresume := resume_of_acknowledged _ u _ k hack hwait hk rfl
  refine ⟨_, _, _, hwrite, hresume, State.carryOut_unit _ u _ _ _ hack, ?_⟩
  obtain ⟨hroom, h⟩ | ⟨hnone, h⟩ := flushPlan_cases k <;> rw [h]
  · exact ⟨rfl, fun hnone => absurd hroom (by omega), fun _ => rfl⟩
  · exact ⟨rfl, fun _ => rfl, fun hroom => absurd hnone (by omega)⟩

end

/-- Settles O37: each check's outcome is the plan it decides on, carried out. -/
theorem errorPriority : Obligations.ErrorPriority := by
  unfold Obligations.ErrorPriority
  intro s u c hc hidle hflight
  let c' : CodecUnit := { c with flushAck := false }
  obtain ⟨hissue, hunit⟩ := issue_of_plan hc (c.notIssuable_none.mpr ⟨hidle, hflight⟩) rfl
  refine ⟨_, _, hissue, hunit, fun e he => ?illegal, fun i hdec => ?legal⟩
  case illegal =>
    rw [commandPlan_of_illegal s.params.layout c' e he]
    exact c'.answers_raise _
  case legal =>
    obtain ⟨hdecode, hlen⟩ := decode_of_decodeCmd hdec
    rw [commandPlan_of_decode (c := c') s.params.layout hdecode] at hunit ⊢
    refine ⟨fun hbad => ?range, fun hgood => ⟨fun hfits => ?passes, fun _ hmiss =>
      ⟨fun hi => ?bounds, fun hi hcb => ?noCallback, fun hi hcb => ?flush⟩⟩⟩
    case range =>
      rw [(planOf_outOfRange_iff s.params.layout i c').mpr hbad]
      exact c'.answers_raise _
    case passes =>
      obtain ⟨r, hr⟩ :=
        unitAfter_of_passes (c := c') (s.latch u c) (wellFormed_of_decode hdecode) hlen hgood hfits
      rw [State.latch_params] at hr
      rw [hr]
      exact ⟨rfl, rfl⟩
    case bounds =>
      rw [planOf_of_outOfBounds (c := c') s.params.layout hi hlen hgood hmiss]
      exact c'.answers_raise _
    case noCallback =>
      rw [planOf_putf_of_noCallback (c := c') s.params.layout hi hgood hcb hmiss]
      exact c'.answers_raise _
    case flush =>
      obtain ⟨bs, hbs⟩ := exists_encodeBytes s.params.layout (.inr hi) hgood
      have hlength := (encodeBytes_ok _ _ _ bs c.len hbs).2
      rw [planOf_putf_of_misfit (c := c') hi hbs (hlength.symm ▸ hmiss) hcb] at hunit ⊢
      rw [← hlength]
      exact ⟨rfl, rfl, acknowledge_then_resume hunit rfl rfl⟩

/-- Settles O38: a unit shows an error only where the plan is that error, at the issue and after a flush. -/
theorem errorsPrecise : Obligations.ErrorsPrecise := by
  unfold Obligations.ErrorsPrecise
  refine ⟨fun s t u c d hc ht hd hidle herror => ?_, fun s t u c d k hc hk hwait hack ht hd herror => ?_⟩
  · obtain ⟨c₀, hc₀, hissuable, -⟩ := issue_next u s t ht
    obtain rfl := Option.some_inj.mp (hc₀.symm.trans hc)
    obtain ⟨hissue, hunit⟩ := issue_of_plan hc hissuable rfl
    obtain rfl := Host.Outcome.next.inj (hissue.symm.trans ht)
    obtain rfl := Option.some_inj.mp (hunit.symm.trans hd)
    rw [Plan.eq_fail_of_error hidle herror]
    exact ⟨CodecUnit.answers_raise _ _, frame_latch_fail s u c₀ _, fun _ => rfl⟩
  · obtain rfl := Host.Outcome.next.inj ((resume_of_acknowledged s u c k hc hwait hk hack).symm.trans ht)
    obtain rfl := Option.some_inj.mp ((s.carryOut_unit u _ c _ hc).symm.trans hd)
    obtain ⟨-, h⟩ | ⟨-, h⟩ := flushPlan_cases k <;> rw [h] at herror ⊢
    · exact absurd rfl herror
    · exact ⟨c.leaveFlush.answers_raise _, { s.carryOut_frame u c.leaveFlush (.fail .flushNoRoom) with },
        fun _ => rfl⟩

/-! ### What no move changes (R352, R359, R374) -/

@[simp] theorem State.takeOff_params (s : State) (u : Nat) (c : CodecUnit) (pl : Plan) :
    (s.takeOff u c pl).params = s.params := by cases pl <;> rfl

@[simp] theorem State.takeOff_sched (s : State) (u : Nat) (c : CodecUnit) (pl : Plan) :
    (s.takeOff u c pl).sched = s.sched := by cases pl <;> rfl

/-- Two states have the same parameters and the same moves to come. -/
def SameSetting (s t : State) : Prop := t.params = s.params ∧ t.sched = s.sched

theorem issue_sameSetting {u : Nat} {s t : State} (h : issue u s = .next t) : SameSetting s t := by
  obtain ⟨c, -, -, rfl⟩ := issue_next u s t h
  exact ⟨State.carryOut_params .., State.carryOut_sched ..⟩

theorem resume_sameSetting {u : Nat} {s t : State} (h : resume u s = .next t) : SameSetting s t := by
  obtain ⟨c, -, rfl | ⟨k, -, -, rfl⟩⟩ := resume_next u s t h
  · exact ⟨rfl, rfl⟩
  · exact ⟨State.carryOut_params .., State.carryOut_sched ..⟩

theorem runMove_sameSetting (m : Move) {s t : State} (ht : runMove m s = .next t) : SameSetting s t := by
  cases m with
  | writeReg u w =>
    obtain ⟨c, -, -, -, rfl⟩ := hostWriteReg_next u w s t ht
    exact ⟨rfl, rfl⟩
  | readReg u r =>
    obtain ⟨-, -, -, -, rfl⟩ := hostReadReg_next u r s t ht
    exact ⟨rfl, rfl⟩
  | issue u => exact issue_sameSetting ht
  | begin u =>
    obtain ⟨-, hissue⟩ | ⟨-, c, -, -, rfl⟩ := beginSplit_next u s t ht
    · exact issue_sameSetting hissue
    · exact ⟨State.takeOff_params .., State.takeOff_sched ..⟩
  | access u k =>
    obtain ⟨c, -, rfl | ⟨tok, o, got, -, -, rfl⟩ | ⟨base, o, bs, todo, b, -, -, -, rfl⟩⟩ := accessByte_next u k s t ht
    · exact ⟨rfl, rfl⟩
    · exact ⟨rfl, rfl⟩
    · exact ⟨rfl, rfl⟩
  | finish u =>
    obtain ⟨c, -, rfl | ⟨f, r, -, -, rfl⟩⟩ := finishSplit_next u s t ht
    · exact ⟨rfl, rfl⟩
    · exact ⟨rfl, rfl⟩
  | resume u => exact resume_sameSetting ht
  | resumeSplit u =>
    obtain ⟨-, hresume⟩ | ⟨-, c, -, rfl | ⟨k, -, -, rfl⟩⟩ := resumeSplit_next u s t ht
    · exact resume_sameSetting hresume
    · exact ⟨rfl, rfl⟩
    · exact ⟨State.takeOff_params .., State.takeOff_sched ..⟩
  | reset u =>
    obtain ⟨-, rfl⟩ := resetUnit_next u s t ht
    exact ⟨rfl, rfl⟩
  | bufRead a =>
    obtain ⟨-, rfl⟩ := hostBufRead_next a s t ht
    exact ⟨rfl, rfl⟩
  | bufWrite a b =>
    obtain ⟨-, rfl⟩ := hostBufWrite_next a b s t ht
    exact ⟨rfl, rfl⟩
  | takeView u =>
    obtain ⟨-, -, -, -, rfl⟩ := hostTakeView_next u s t ht
    exact ⟨rfl, rfl⟩
  | viewRead v i =>
    obtain ⟨-, -, -, rfl⟩ := hostViewRead_next v i s t ht
    exact ⟨rfl, rfl⟩
  | viewWrite v i b =>
    obtain ⟨-, -, -, rfl⟩ := hostViewWrite_next v i b s t ht
    exact ⟨rfl, rfl⟩

theorem runMove_units_length (m : Move) {s t : State} (ht : runMove m s = .next t) :
    t.units.length = s.units.length := by
  obtain hunits | ⟨v, d, -, hunits⟩ := runMove_units m s t ht
  · rw [hunits]
  · rw [hunits, List.length_set]

/-- Settles O50: no move touches parameters or schedule, and a move replaces no unit but its own. -/
theorem otherUnitsUntouched : Obligations.OtherUnitsUntouched := by
  unfold Obligations.OtherUnitsUntouched
  intro m s t ht
  obtain ⟨hparams, hsched⟩ := runMove_sameSetting m ht
  exact ⟨hparams, runMove_units_length m ht, hsched, fun v hv => runMove_other hv ht⟩

end Sys2Proof.Machine

/-! SUPPORT. Reset, of a unit and of the machine, and the two steps in which a command ends
(spec/70_reset_and_hazards.md R370 to R373, R380, R385). -/

namespace Sys2Proof

namespace Machine

/-! ### A command ends (R380, R385) -/

/-- After a plan is carried out in one step the command has ended, or waits for its flush. -/
theorem Plan.unitAfter_ended_or_waits (s : State) (c : CodecUnit) (pl : Plan) :
    (pl.unitAfter s c).Ended ∨ ∃ k, pl.unitAfter s c = c.requestFlush k := by
  cases pl with
  | fail e => exact .inl (c.ended_raise e)
  | now r => exact .inl (c.ended_respond r)
  | read tok o n => exact .inl (c.ended_respond _)
  | write base o bs => exact .inl (c.ended_respond _)
  | flush k => exact .inr ⟨k, rfl⟩

/-- Step 2 of a flush asks for no second flush. -/
theorem flushPlan_unitAfter_ended (s : State) (c : CodecUnit) (k : FlushContext) :
    ((flushPlan k).unitAfter s c).Ended := by
  obtain ⟨-, h⟩ | ⟨-, h⟩ := flushPlan_cases k <;> rw [h]
  · exact c.ended_respond _
  · exact c.ended_raise _

/-- Once the host acknowledges the flush a unit waits for, step 2 ends the command. -/
theorem acknowledge_then_resume_ends {s : State} {u : Nat} {c : CodecUnit} {k : FlushContext}
    (hc : s.units[u]? = some c) (hwait : c.unitState = .flushWait) (hk : c.ctx = some k) :
    ∃ t₁ t₂ d, hostWriteReg u (.flushAck true) s = .next t₁ ∧ resume u t₁ = .next t₂ ∧
      t₂.units[u]? = some d ∧ d.Ended ∧ d.flight = c.flight := by
  have hwrite := hostWriteReg_of_allowed hc (.flushAck true) rfl (.inr rfl)
  have hack := s.setUnit_same u (c.write (.flushAck true)) c hc
  exact ⟨_, _, _, hwrite, resume_of_acknowledged _ u _ k hack hwait hk rfl,
    State.carryOut_unit _ u _ _ _ hack, flushPlan_unitAfter_ended _ _ k, (State.carryOut_frame _ u _ _).flight⟩

/-- Settles O42: the plan of the issue ends the command or waits, and step 2 ends what waits. -/
theorem endsInTwoSteps : Obligations.EndsInTwoSteps := by
  unfold Obligations.EndsInTwoSteps
  intro s u c hc hidle hflight
  obtain ⟨hissue, hunit⟩ := issue_of_plan hc (c.notIssuable_none.mpr ⟨hidle, hflight⟩) rfl
  refine ⟨_, _, hissue, hunit, ?_⟩
  obtain ⟨hidle', -, hrtag⟩ | ⟨k, hwaits⟩ := Plan.unitAfter_ended_or_waits (s.latch u c)
    { c with flushAck := false } (commandPlan s.params.layout { c with flushAck := false })
  · exact .inl ⟨hidle', hrtag, ((s.latch u c).carryOut_frame u _ _).flight.trans hflight⟩
  · rw [hwaits] at hunit ⊢
    obtain ⟨t₁, t₂, d, hwrite, hresume, hd, ⟨hidle', -, hrtag⟩, hkept⟩ :=
      acknowledge_then_resume_ends hunit rfl rfl
    exact .inr ⟨rfl, t₁, t₂, d, hwrite, hresume, hd, hidle', hrtag, hkept.trans hflight⟩

/-! ### Reset (R370 to R373) -/

/-- Whatever the parameters, each unit is at its reset values, BUF is unwritten and no view is held. -/
theorem State.inv_resetWith (p : Params) (hp : p.wf) : (State.resetWith p).Inv where
  params_wf := hp
  units_length := List.length_replicate
  buf_wf := List.Pairwise.nil
  units_wf := fun _ hc => List.eq_of_mem_replicate hc ▸ CodecUnit.wf_reset p
  views_wf := nofun

/-- Settles O48: the model's own parameters are among those R7 lets. -/
theorem invReset : Obligations.InvReset := by
  unfold Obligations.InvReset
  exact ⟨State.inv_resetWith Config.params (by decide), State.inv_resetWith⟩

theorem resetUnit_of_unit {s : State} {u : Nat} {c : CodecUnit} (hc : s.units[u]? = some c) :
    resetUnit u s = .next (s.setUnit u CodecUnit.reset) :=
  s.onUnit_of_unit u _ c hc

theorem CodecUnit.reset_notIssuable : CodecUnit.reset.notIssuable = none :=
  CodecUnit.reset.notIssuable_none.mpr ⟨rfl, rfl⟩

end Machine

open Machine in
/-- Settles O52: the unit is replaced by one at its reset values, and nothing else is. -/
theorem resetUnit : Obligations.ResetUnit := by
  unfold Obligations.ResetUnit
  intro s u _ hc
  refine ⟨_, CodecUnit.reset, resetUnit_of_unit hc, s.setUnit_same u _ _ hc, ?_⟩
  exact ⟨rfl, rfl, rfl, rfl, rfl, rfl, rfl, rfl, rfl, rfl, rfl, rfl, rfl, rfl, rfl, rfl, rfl, rfl, rfl,
    CodecUnit.reset_notIssuable, fun _ => rfl, rfl, fun v hv => s.setUnit_other u v _ hv⟩

end Sys2Proof
